-- ==== Sys2Proof/Word.lean ====
section
/-! DEFINITION. The words of the LQ4: bytes, 16-bit fields, stamps, sequences, and the index types of its tables. -/

namespace Sys2Proof

/-- One byte of a frame or of a payload. -/
abbrev Byte := BitVec 8

/-- A 16-bit field: a tag, a mask, a generation, a limit in milliseconds or a counter (R175). -/
abbrev Half := BitVec 16

/-- A value of the 32-bit microsecond time base (R154), also a message's stamp (R56). -/
abbrev Stamp := BitVec 32

/-- A 48-bit sequence number (R42). -/
abbrev Seq := BitVec 48

/-- A host port, P0 to P3. -/
abbrev Port := Fin 4

/-- A slot of the pool, 0 to 255 (R1). -/
abbrev SlotIx := Fin 256

/-- A board, 0 to 31 (R20). -/
abbrev BoardIx := Fin 32

/-- A route rule, 0 to 63 (R20). -/
abbrev RuleIx := Fin 64

/-- A handle position of a hand, 0 to 3 (R64). -/
abbrev Handle := Fin 4

/-- One value for each of the four ports. -/
abbrev PerPort (α : Type) := Vector α 4

/-- A set of ports: for each port, whether it is a member. -/
abbrev PortSet := Vector Bool 4

/-- A set of boards: for each board, whether it is a member. -/
abbrev BoardSet := Vector Bool 32

end Sys2Proof
end

