-- ==== Sys2Proof/Machine/Records.lean ====
section
/-! DEFINITION. The records each block of the LQ4 holds: slots, rules, queues, boards, pulls, sessions, link and attention. -/

namespace Sys2Proof.Machine

/-- A timer of the hub: the time base when it was set, and its duration in milliseconds (R156).
`due` is the model's own record that the timer has met a tick at which it was due and whose expiry
has not been taken yet (R156, R158; log entry 7). -/
structure Timer where
  start    : Stamp
  duration : Half
  due      : Bool
  deriving DecidableEq, Repr, Inhabited

/-- How a LIVE slot is held: by queue and hand entries, or by one board (R1, R13). -/
inductive Kind where
  | queued
  | boarded
  deriving DecidableEq, Repr, Inhabited

/-- The 64 payload bytes of a slot (R1). -/
abbrev Payload := Vector Byte 64

/-- The fields of a LIVE slot (R1). -/
structure Message where
  payload  : Payload
  length   : Fin 65
  tag      : Half
  routeTag : Half
  author   : Port
  sequence : Seq
  stamp    : Stamp
  kind     : Kind
  refs     : Nat
  deriving DecidableEq, Repr, Inhabited

/-- A slot record: its state with the fields present in that state (R1). -/
inductive Slot where
  | free
  | composing (owner : Port) (payload : Payload)
  | live (m : Message)
  deriving DecidableEq, Repr, Inhabited

/-- The Slot Pool: the 256 slots, the free list (head first) and the pool-empty counter (R1, R2, R6). -/
structure Pool where
  slots     : Vector Slot 256
  freeList  : List SlotIx
  poolEmpty : Half
  deriving DecidableEq, Repr

/-- The two lanes of a port's queue (R61). -/
inductive Lane where
  | normal
  | urgent
  deriving DecidableEq, Repr, Inhabited

/-- What a delivery does at a full destination (R29). -/
inductive FullPolicy where
  | refuse
  | dropNew
  | dropOldest
  deriving DecidableEq, Repr, Inhabited

/-- The class of a rule with the fields present in that class only: lane and full policy, or board (R21). -/
inductive RuleClass where
  | queued (lane : Lane) (policy : FullPolicy)
  | board (board : BoardIx)
  deriving DecidableEq, Repr, Inhabited

/-- A route rule (R21). -/
structure Rule where
  valid    : Bool
  tag      : Half
  mask     : Half
  source   : PortSet
  cls      : RuleClass
  dest     : PortSet
  echo     : Bool
  rewrite  : Option Half
  deriving DecidableEq, Repr, Inhabited

/-- A board definition (R32). -/
structure BoardDef where
  enabled     : Bool
  supplier    : Option Port
  pullTimeout : Half
  deriving DecidableEq, Repr, Inhabited

/-- A route table, active or shadow: 64 rules and 32 board definitions (R20). -/
structure Table where
  rules  : Vector Rule 64
  boards : Vector BoardDef 32
  deriving DecidableEq, Repr

/-- The sequence counter (R42). -/
inductive SequenceCounter where
  | next (n : Seq)
  | exhausted
  deriving DecidableEq, Repr, Inhabited

/-- The held claim: holder, shadow table and claim deadline (R118). -/
structure Claim where
  holder : Port
  shadow : Table
  timer  : Timer
  deriving DecidableEq, Repr

/-- A queue entry (R61). -/
structure Entry where
  slot       : SlotIx
  sequence   : Seq
  lane       : Lane
  redelivery : Nat
  deriving DecidableEq, Repr, Inhabited

/-- A hand entry: the queue entry it was, with its lease deadline (R64). -/
structure HandEntry where
  entry : Entry
  lease : Timer
  deriving DecidableEq, Repr, Inhabited

/-- One port's share of the Queue Manager: two lanes (head first), the hand and three counters (R61 to R64, R80, R81). -/
structure Queue where
  urgent   : List Entry
  normal   : List Entry
  hand     : Vector (Option HandEntry) 4
  overflow : Half
  discard  : Half
  expiry   : Half
  deriving DecidableEq, Repr

/-- The runtime record of one board (R86). -/
structure Board where
  held         : Option SlotIx
  lastSequence : Seq
  unread       : PortSet
  overwrites   : PerPort Byte
  deriving DecidableEq, Repr

/-- How a pull ended (R100); SATISFIED carries the satisfying sequence. -/
inductive PullOutcome where
  | satisfied (sequence : Seq)
  | expired
  | supplierLost
  | boardWithdrawn
  deriving DecidableEq, Repr

/-- A pull waits under its deadline, or has ended and waits to be collected (R100). -/
inductive PullState where
  | waiting (timer : Timer)
  | done (outcome : PullOutcome)
  deriving DecidableEq, Repr

/-- A pull entry (R100). -/
structure Pull where
  requester : Port
  board     : BoardIx
  state     : PullState
  deriving DecidableEq, Repr

/-- The parts of a session that exist in OPEN and CLOSING only: the parameters in force and the silence
timer (R135). The silence limit is the duration of the silence timer; no timer means the limit is off
(log entry 14). -/
structure Conn where
  lease       : Half
  silence     : Option Timer
  depth       : Nat
  composing   : Nat
  redelivery  : Nat
  deriving DecidableEq, Repr

/-- The session state with the parts present in it (R135). -/
inductive Phase where
  | closed
  | opened (c : Conn)
  | closing (c : Conn)
  | fenced
  deriving DecidableEq, Repr

/-- A port's session record (R135). -/
structure Session where
  phase : Phase
  epoch : Byte
  deriving DecidableEq, Repr

/-- The name of a session state, as responses and STATUS report it (R135, R170). -/
inductive SessionState where
  | closed
  | opened
  | closing
  | fenced
  deriving DecidableEq, Repr

/-- The outcomes of requests (spec/10 section 10.6, Outcomes). -/
inductive OutcomeCode where
  | ok | empty | nothingHeld
  | badCommand | badLength | badArgument | notOpen | fenced | closing | alreadyOpen | notFenced
  | linkCrc | linkTruncated
  | poolEmpty | composeLimit | notYourSlot | noRoute | queueFull | sequenceExhausted
  | handFull | staleHandle
  | boardDisabled | boardEmpty | pullListFull | pullLimit | alreadyPending | noSupplier | supplierAbsent
  | noSuchPull | selfSupplier | uncollected
  | claimHeld | notHolder | tableInvalid
  deriving DecidableEq, Repr

/-- A response, field by field; `Response.bytes` lays it out with its CRC (R170). -/
structure Response where
  command : Byte
  session : SessionState
  number  : BitVec 4
  outcome : OutcomeCode
  epoch   : Byte
  content : List Byte
  deriving DecidableEq, Repr

/-- A port's link record (R161, R169, R170, R172). -/
structure Link where
  held         : Response
  lastExecuted : Response
  lastNumber   : Option (BitVec 4)
  crcErrors    : Half
  truncated    : Half
  duplicates   : Half
  deriving DecidableEq, Repr

/-- The four latched flags of a port (R177). -/
structure Latched where
  claimLapsed  : Bool
  discarded    : Bool
  overflow     : Bool
  tableChanged : Bool
  deriving DecidableEq, Repr

/-- A port's share of the Attention Unit: latched flags, enable mask and the attention line, true when
asserted (R177, R179, R180). -/
structure Attention where
  latched : Latched
  mask    : Half
  line    : Bool
  deriving DecidableEq, Repr

end Sys2Proof.Machine
end

