-- ==== Sys2Proof/Config.lean ====
section
/-! DEFINITION. What is fixed for every LQ4, and the free values: what the manual leaves open and the model leaves unconstrained. -/

namespace Sys2Proof.Config

/-- The claim timeout, 2000 ms (R125). -/
def claimTimeout : Half := 2000#16

/-- Entries of the pull list for the whole hub (R101). -/
def pullListSize : Nat := 12

/-- Entries of the pull list for one requester (R101). -/
def pullsPerPort : Nat := 4

/-- Microseconds from one tick to the next (R155). -/
def tickPeriod : Nat := 1000

/-- Microseconds a port needs after chip select goes high (R162). -/
def transactionGap : Nat := 2

/-- Microseconds after the release of RESET_N before a transaction is received (R173). -/
def releaseGap : Nat := 50

/-- FREE VALUE (log entry 6). Whether the `n`-th low pulse on RESET_N shorter than 10 µs acts as a full pin
reset (true) or is ignored (false): R174 does not specify which. -/
opaque shortPulseResets : Nat → Bool

/-- FREE VALUE (log entry 9). What is reported of a queue entry or board whose slot is not LIVE. R13 and R87
exclude the case, so no run meets it. -/
opaque strayMessage : SlotIx → Machine.Message

end Sys2Proof.Config
end

