-- ==== Sys2Proof/Syntax.lean ====
section
/-! DEFINITION. The commands of the LQ4, one constructor a row of spec/opcode_table.json, with the fields each carries. -/

namespace Sys2Proof

/-- Where a request comes from: the port whose frame carries it, and the request number in the frame's
second byte (R163). -/
structure Head where
  port   : Port
  number : BitVec 4
  deriving DecidableEq, Repr

/-- The arguments of OPEN, as the frame carries them (spec/10 section 10.6; their meaning is R137's). -/
structure OpenArgs where
  lease      : Half
  silence    : Half
  silenceOff : Byte
  depth      : Byte
  composing  : Byte
  redelivery : Byte
  deriving DecidableEq, Repr

/-- The 13 bytes of a rule on the link (spec/10 section 10.6, Rule and board definition). -/
structure RuleImage where
  flags   : Byte
  cls     : Byte
  tag     : Half
  mask    : Half
  source  : Byte
  dest    : Byte
  rewrite : Half
  lane    : Byte
  policy  : Byte
  board   : Byte
  deriving DecidableEq, Repr

/-- The 4 bytes of a board definition on the link (spec/10 section 10.6). -/
structure BoardImage where
  flags       : Byte
  supplier    : Byte
  pullTimeout : Half
  deriving DecidableEq, Repr

/-- The commands: requests in well-formed frames with the argument length their command asks for, frames
refused at the first check, link events, reset-pin events, and the events of time. -/
inductive Instr where
  /-- POLL (R168). -/
  | poll (h : Head)
  /-- OPEN (R137, R138). -/
  | openSession (h : Head) (args : OpenArgs)
  /-- CLOSE (R145). -/
  | close (h : Head)
  /-- UNFENCE (R149). -/
  | unfence (h : Head)
  /-- RESET_PORT (R150). -/
  | resetPort (h : Head)
  /-- RESERVE (R5). -/
  | reserve (h : Head)
  /-- WRITE (R8): slot, offset and 0 to 64 data bytes. -/
  | write (h : Head) (slot : SlotIx) (offset : Byte) (data : List Byte)
  /-- ABANDON (R10). -/
  | abandon (h : Head) (slot : SlotIx)
  /-- SUBMIT (R39, R40). -/
  | submit (h : Head) (slot : SlotIx) (tag : Half) (length : Byte)
  /-- TAKE (R66). -/
  | take (h : Head)
  /-- PEEK (R67). -/
  | peek (h : Head)
  /-- RELEASE (R70). -/
  | release (h : Head) (handle : Byte) (sequence : Seq)
  /-- RETURN (R71). -/
  | giveBack (h : Head) (handle : Byte) (sequence : Seq)
  /-- RENEW (R72). -/
  | renew (h : Head) (handle : Byte) (sequence : Seq)
  /-- READ_BOARD (R92). -/
  | readBoard (h : Head) (board : Byte)
  /-- PULL (R104). -/
  | pull (h : Head) (board : Byte)
  /-- CANCEL_PULL (R113). -/
  | cancelPull (h : Head) (board : Byte)
  /-- COLLECT (R114). -/
  | collect (h : Head) (board : Byte)
  /-- CLAIM (R120). -/
  | claim (h : Head)
  /-- EDIT_RULE (R121, R122). -/
  | editRule (h : Head) (index : Byte) (rule : RuleImage)
  /-- CLEAR_RULE (R121, R122). -/
  | clearRule (h : Head) (index : Byte)
  /-- EDIT_BOARD (R121, R122). -/
  | editBoard (h : Head) (index : Byte) (board : BoardImage)
  /-- READ_RULE (R36, R123). -/
  | readRule (h : Head) (index : Byte) (selector : Byte)
  /-- READ_BOARDDEF (R36, R123). -/
  | readBoarddef (h : Head) (index : Byte) (selector : Byte)
  /-- COMMIT (R127, R128). -/
  | commit (h : Head)
  /-- DROP_CLAIM (R124). -/
  | dropClaim (h : Head)
  /-- STATUS (R182). -/
  | status (h : Head)
  /-- ACK_REASONS (R183). -/
  | ackReasons (h : Head) (reasons : Half)
  /-- SET_ATTENTION (R185). -/
  | setAttention (h : Head) (mask : Half)
  /-- STATS (R186): the two choices, clear port counters and clear hub counters. -/
  | stats (h : Head) (clearPort : Byte) (clearHub : Byte)
  /-- LINK_TRUNCATED (R165): a truncated frame; the bytes are those of the whole transaction. -/
  | linkTruncated (port : Port) (bytes : List Byte)
  /-- LINK_CRC (R165): a complete frame that fails its CRC check. -/
  | linkCrc (port : Port) (bytes : List Byte)
  /-- BAD_COMMAND (R167): a well-formed frame refused at the first check of R166, for its command code or
  for its argument length. -/
  | badCommand (h : Head) (code : Byte) (args : List Byte)
  /-- TRANSACTION_TOO_SOON (R162; also the transactions R173 ignores). -/
  | transactionTooSoon (port : Port)
  /-- RESET_N_ASSERT (R173). -/
  | resetNAssert
  /-- RESET_N_RELEASE (R152). -/
  | resetNRelease
  /-- RESET_N_SHORT_PULSE (R174). -/
  | resetNShortPulse
  /-- TICK (R155). -/
  | tick
  /-- LEASE_EXPIRY (R74, R75) of one handle position of one port. -/
  | leaseExpiry (port : Port) (handle : Handle)
  /-- PULL_EXPIRY (R107) of one requester's pull on one board. -/
  | pullExpiry (requester : Port) (board : BoardIx)
  /-- CLAIM_LAPSE (R125). -/
  | claimLapse
  /-- SILENCE_EXPIRY (R141) of one port. -/
  | silenceExpiry (port : Port)
  /-- TIME_BASE_ADVANCE (R154): one microsecond. -/
  | timeBaseAdvance
  deriving DecidableEq, Repr

end Sys2Proof
end

