-- ==== Sys2Proof/Decode.lean ====
section
/-! DEFINITION. The link as bytes: little-endian fields, the frame CRC, the command table, the bits of a
transaction, judging it into a command, and the encoder of request frames. -/

namespace Sys2Proof

/-! ### Bytes and fields -/

/-- The `k` low bytes of `n`, least significant first (R175). -/
def leBytes : Nat → Nat → List Byte
  | 0, _ => []
  | k + 1, n => BitVec.ofNat 8 n :: leBytes k (n / 256)

/-- The number whose bytes are `bs`, least significant first (R175). -/
def leNat : List Byte → Nat
  | [] => 0
  | b :: bs => b.toNat + 256 * leNat bs

/-- A 16-bit field of two bytes, least significant first. -/
def half (b0 b1 : Byte) : Half := BitVec.ofNat 16 (leNat [b0, b1])

/-- A slot index byte: every value names a slot (R39). -/
def slotOf (b : Byte) : SlotIx := ⟨b.toNat, b.isLt⟩

/-! ### The CRC of a frame (R164) -/

/-- One shift of the CRC register: the bit shifted out decides whether 1021h is combined in. -/
def crcShift (r : Half) : Half :=
  if r.msb then (r <<< 1) ^^^ 0x1021#16 else r <<< 1

/-- One byte into the CRC register: into its upper eight bits, then eight shifts. -/
def crcByte (r : Half) (b : Byte) : Half :=
  Nat.iterate crcShift 8 (r ^^^ (b.setWidth 16 <<< 8))

/-- The CRC of a run of bytes, from FFFFh, with no final inversion (R164). -/
def crc16 (bytes : List Byte) : Half := bytes.foldl crcByte 0xFFFF#16

/-! ### The command table (spec/10 section 10.6) -/

namespace Code
def poll : Byte := 0x00#8
def openSession : Byte := 0x01#8
def close : Byte := 0x02#8
def unfence : Byte := 0x03#8
def resetPort : Byte := 0x04#8
def reserve : Byte := 0x10#8
def write : Byte := 0x11#8
def abandon : Byte := 0x12#8
def submit : Byte := 0x13#8
def take : Byte := 0x20#8
def peek : Byte := 0x21#8
def release : Byte := 0x22#8
def giveBack : Byte := 0x23#8
def renew : Byte := 0x24#8
def readBoard : Byte := 0x30#8
def pull : Byte := 0x31#8
def cancelPull : Byte := 0x32#8
def collect : Byte := 0x33#8
def claim : Byte := 0x40#8
def editRule : Byte := 0x41#8
def clearRule : Byte := 0x42#8
def editBoard : Byte := 0x43#8
def readRule : Byte := 0x44#8
def readBoarddef : Byte := 0x45#8
def commit : Byte := 0x46#8
def dropClaim : Byte := 0x47#8
def status : Byte := 0x50#8
def ackReasons : Byte := 0x51#8
def setAttention : Byte := 0x52#8
def stats : Byte := 0x53#8
end Code

/-- The least and greatest argument length of a command code, or none for a code not in the table (R167). -/
def argLengths (code : Byte) : Option (Nat × Nat) :=
  match code.toNat with
  | 0x00 => some (0, 0)
  | 0x01 => some (8, 8)
  | 0x02 => some (0, 0)
  | 0x03 => some (0, 0)
  | 0x04 => some (0, 0)
  | 0x10 => some (0, 0)
  | 0x11 => some (2, 66)
  | 0x12 => some (1, 1)
  | 0x13 => some (4, 4)
  | 0x20 => some (0, 0)
  | 0x21 => some (0, 0)
  | 0x22 => some (7, 7)
  | 0x23 => some (7, 7)
  | 0x24 => some (7, 7)
  | 0x30 => some (1, 1)
  | 0x31 => some (1, 1)
  | 0x32 => some (1, 1)
  | 0x33 => some (1, 1)
  | 0x40 => some (0, 0)
  | 0x41 => some (14, 14)
  | 0x42 => some (1, 1)
  | 0x43 => some (5, 5)
  | 0x44 => some (2, 2)
  | 0x45 => some (2, 2)
  | 0x46 => some (0, 0)
  | 0x47 => some (0, 0)
  | 0x50 => some (0, 0)
  | 0x51 => some (2, 2)
  | 0x52 => some (2, 2)
  | 0x53 => some (2, 2)
  | _ => none

/-- Whether the command table knows the code. -/
def knownCode (code : Byte) : Bool := (argLengths code).isSome

/-- Whether a frame with this code and this many argument bytes passes the first check of R166 (R167). -/
def lengthAccepted (code : Byte) (n : Nat) : Bool :=
  match argLengths code with
  | some (lo, hi) => lo ≤ n && n ≤ hi
  | none => false

/-- A request without arguments. -/
def bare (c : Instr) : List Byte → Option Instr
  | [] => some c
  | _ => none

/-- A request of one argument byte. -/
def ofByte (f : Byte → Instr) : List Byte → Option Instr
  | [b] => some (f b)
  | _ => none

/-- A request of two argument bytes. -/
def ofTwo (f : Byte → Byte → Instr) : List Byte → Option Instr
  | [b, b'] => some (f b b')
  | _ => none

/-- A request of one two-byte argument. -/
def ofHalf (f : Half → Instr) : List Byte → Option Instr
  | [b0, b1] => some (f (half b0 b1))
  | _ => none

/-- A request of a handle and a sequence. -/
def ofHandle (f : Byte → Seq → Instr) : List Byte → Option Instr
  | [k, q0, q1, q2, q3, q4, q5] => some (f k (BitVec.ofNat 48 (leNat [q0, q1, q2, q3, q4, q5])))
  | _ => none

/-- The arguments of OPEN. -/
def ofOpen (f : OpenArgs → Instr) : List Byte → Option Instr
  | [l0, l1, s0, s1, off, d, c, r] => some (f ⟨half l0 l1, half s0 s1, off, d, c, r⟩)
  | _ => none

/-- The arguments of WRITE: slot, offset and what remains as data. -/
def ofWrite (f : SlotIx → Byte → List Byte → Instr) : List Byte → Option Instr
  | sl :: off :: data => if data.length ≤ 64 then some (f (slotOf sl) off data) else none
  | _ => none

/-- The arguments of SUBMIT. -/
def ofSubmit (f : SlotIx → Half → Byte → Instr) : List Byte → Option Instr
  | [sl, t0, t1, len] => some (f (slotOf sl) (half t0 t1) len)
  | _ => none

/-- The arguments of EDIT_RULE: index and rule. -/
def ofRule (f : Byte → RuleImage → Instr) : List Byte → Option Instr
  | [i, fl, cl, t0, t1, m0, m1, src, dst, r0, r1, la, po, bo] =>
    some (f i ⟨fl, cl, half t0 t1, half m0 m1, src, dst, half r0 r1, la, po, bo⟩)
  | _ => none

/-- The arguments of EDIT_BOARD: index and board definition. -/
def ofBoard (f : Byte → BoardImage → Instr) : List Byte → Option Instr
  | [i, fl, su, p0, p1] => some (f i ⟨fl, su, half p0 p1⟩)
  | _ => none

/-- The request that a command code and its argument bytes spell, or none where the code is unknown or the
argument length is not the one the table gives (R167). -/
def requestOf (h : Head) (code : Byte) (args : List Byte) : Option Instr :=
  match code.toNat with
  | 0x00 => bare (.poll h) args
  | 0x01 => ofOpen (.openSession h) args
  | 0x02 => bare (.close h) args
  | 0x03 => bare (.unfence h) args
  | 0x04 => bare (.resetPort h) args
  | 0x10 => bare (.reserve h) args
  | 0x11 => ofWrite (.write h) args
  | 0x12 => ofByte (fun sl => .abandon h (slotOf sl)) args
  | 0x13 => ofSubmit (.submit h) args
  | 0x20 => bare (.take h) args
  | 0x21 => bare (.peek h) args
  | 0x22 => ofHandle (.release h) args
  | 0x23 => ofHandle (.giveBack h) args
  | 0x24 => ofHandle (.renew h) args
  | 0x30 => ofByte (.readBoard h) args
  | 0x31 => ofByte (.pull h) args
  | 0x32 => ofByte (.cancelPull h) args
  | 0x33 => ofByte (.collect h) args
  | 0x40 => bare (.claim h) args
  | 0x41 => ofRule (.editRule h) args
  | 0x42 => ofByte (.clearRule h) args
  | 0x43 => ofBoard (.editBoard h) args
  | 0x44 => ofTwo (.readRule h) args
  | 0x45 => ofTwo (.readBoarddef h) args
  | 0x46 => bare (.commit h) args
  | 0x47 => bare (.dropClaim h) args
  | 0x50 => bare (.status h) args
  | 0x51 => ofHalf (.ackReasons h) args
  | 0x52 => ofHalf (.setAttention h) args
  | 0x53 => ofTwo (.stats h) args
  | _ => none

/-! ### Judging a transaction (R162, R163, R173) -/

/-- What the PIU finds in the bytes of a transaction (R163, R164). -/
inductive Verdict where
  | truncated
  | badCrc
  | frame (number : BitVec 4) (code : Byte) (args : List Byte)
  deriving DecidableEq, Repr

/-- Judges the whole bytes clocked in while chip select was low: truncated, complete with a wrong CRC, or
well-formed. Bytes after the frame are not examined, and neither are bits 7 to 4 of the second byte (R163). -/
def judge (bytes : List Byte) : Verdict :=
  match bytes with
  | code :: num :: len :: rest =>
    if 72 < len.toNat ∨ rest.length < 2 + len.toNat then .truncated
    else
      let args := rest.take len.toNat
      if (rest.drop len.toNat).take 2 = leBytes 2 (crc16 (code :: num :: len :: args)).toNat then
        .frame (num.setWidth 4) code args
      else .badCrc
  | _ => .truncated

/-! ### The bits of a transaction (R161 to R163, R173) -/

/-- The bits of a byte in the order the link carries them, most significant first (R161). -/
def bitsOf (b : Byte) : List Bool := (List.range 8).map b.getMsbD

/-- The byte that a run of bits spells, most significant first (R161). -/
def byteOf (bits : List Bool) : Byte := BitVec.ofNat 8 (bits.foldl (fun n b => 2 * n + b.toNat) 0)

/-- Gathers clocked bits into bytes; a last byte of which fewer than eight bits were clocked is dropped (R163). -/
def gather : List Bool → List Byte
  | b7 :: b6 :: b5 :: b4 :: b3 :: b2 :: b1 :: b0 :: rest => byteOf [b7, b6, b5, b4, b3, b2, b1, b0] :: gather rest
  | _ => []

/-- What happens on the pins while the chip select of a port is low (R161, R173, R174). -/
inductive LinkEdge where
  /-- A rising edge of the clock, which samples the level on data in. -/
  | clockRises (dataIn : Bool)
  /-- A falling edge of the clock, on which data out changes. -/
  | clockFalls
  /-- RESET_N goes low. -/
  | resetFalls
  /-- RESET_N is released. -/
  | resetReleased
  /-- A low pulse on RESET_N shorter than 10 µs, the one that `Config.shortPulseResets` numbers so. -/
  | shortPulse (number : Nat)
  deriving DecidableEq, Repr

/-- The bit of data in that an edge samples: one on each rising edge of the clock (R161). -/
def LinkEdge.bit? : LinkEdge → Option Bool
  | .clockRises b => some b
  | _ => none

/-- Whether an edge loses the transaction in progress: RESET_N going low does, and so does a short pulse that
acts as a full pin reset (R173, R174). -/
def LinkEdge.loses : LinkEdge → Bool
  | .resetFalls => true
  | .shortPulse n => Config.shortPulseResets n
  | _ => false

/-- The bits a port has yet to drive on data out, the one presented first, after an edge: a falling edge of the
clock goes to the next one (R161), and a transaction that is lost reads 00h from there on (R173). -/
def LinkEdge.shift (out : List Bool) (e : LinkEdge) : List Bool :=
  match e with
  | .clockRises _ => out
  | .clockFalls => out.tail
  | .resetFalls => []
  | .resetReleased => out
  | .shortPulse _ => if e.loses then [] else out

/-- The level of data out for the bits yet to drive: past the last one it reads 0 (R161). -/
def outLevel (out : List Bool) : Bool := out.headD false

/-- The bits a host samples on data out, one on each rising edge of the clock (R161). -/
def drive (out : List Bool) : List LinkEdge → List Bool
  | [] => []
  | e :: es => (if e.bit?.isSome then [outLevel out] else []) ++ drive (e.shift out) es

/-- One SPI transaction on a port, from chip select going low to its going high. `sinceRelease`: the microseconds
from the release of RESET_N to the falling edge of chip select, none where that edge came while RESET_N was low.
`sincePrevious`: the microseconds from the port's last rising edge of chip select, none where there was none.
`edges`: what happened on the pins in between, in order. -/
structure Transaction where
  port          : Port
  sinceRelease  : Option Nat
  sincePrevious : Option Nat
  edges         : List LinkEdge
  deriving DecidableEq, Repr

/-- Whether the transaction starts late enough to be received: 50 µs after the release of RESET_N (R173) and 2 µs
after the port's previous transaction (R162). -/
def Transaction.startsInTime (t : Transaction) : Bool :=
  (match t.sinceRelease with
    | some us => Config.releaseGap ≤ us
    | none => false) &&
  (match t.sincePrevious with
    | some us => Config.transactionGap ≤ us
    | none => true)

/-- Whether the port receives the transaction: it starts late enough and no reset loses it on its way, whether
RESET_N is released again before its end or not (R162, R173). -/
def Transaction.received (t : Transaction) : Bool := t.startsInTime && !t.edges.any LinkEdge.loses

/-- The whole bytes clocked in on data in (R161, R163). -/
def Transaction.dataIn (t : Transaction) : List Byte := gather (t.edges.filterMap LinkEdge.bit?)

/-- The command that the bytes of a received transaction are (R163 to R167). -/
def commandOf (p : Port) (bytes : List Byte) : Instr :=
  match judge bytes with
  | .truncated => .linkTruncated p bytes
  | .badCrc => .linkCrc p bytes
  | .frame number code args => (requestOf ⟨p, number⟩ code args).getD (.badCommand ⟨p, number⟩ code args)

/-- The command that a transaction is when chip select goes high: one not received, or lost to a reset, changes
nothing, whatever its bytes (R162, R173). -/
def Transaction.command (t : Transaction) : Instr :=
  if t.received then commandOf t.port t.dataIn else .transactionTooSoon t.port

/-! ### The encoder of request frames (R163, spec/10 section 10.6) -/

/-- A request as a frame carries it. -/
structure Request where
  head : Head
  code : Byte
  args : List Byte
  deriving DecidableEq, Repr

/-- The bytes of a rule (spec/10 section 10.6). -/
def RuleImage.bytes (r : RuleImage) : List Byte :=
  [r.flags, r.cls] ++ leBytes 2 r.tag.toNat ++ leBytes 2 r.mask.toNat ++ [r.source, r.dest] ++
    leBytes 2 r.rewrite.toNat ++ [r.lane, r.policy, r.board]

/-- The bytes of a board definition (spec/10 section 10.6). -/
def BoardImage.bytes (b : BoardImage) : List Byte :=
  [b.flags, b.supplier] ++ leBytes 2 b.pullTimeout.toNat

/-- The arguments of OPEN as bytes (spec/10 section 10.6). -/
def OpenArgs.bytes (a : OpenArgs) : List Byte :=
  leBytes 2 a.lease.toNat ++ leBytes 2 a.silence.toNat ++ [a.silenceOff, a.depth, a.composing, a.redelivery]

/-- A slot index as a byte. -/
def slotByte (s : SlotIx) : Byte := BitVec.ofNat 8 s.val

/-- The request a command is carried by, or none for a command that is no request frame. -/
def Instr.request? : Instr → Option Request
  | .poll h => some ⟨h, Code.poll, []⟩
  | .openSession h a => some ⟨h, Code.openSession, a.bytes⟩
  | .close h => some ⟨h, Code.close, []⟩
  | .unfence h => some ⟨h, Code.unfence, []⟩
  | .resetPort h => some ⟨h, Code.resetPort, []⟩
  | .reserve h => some ⟨h, Code.reserve, []⟩
  | .write h sl off data => some ⟨h, Code.write, slotByte sl :: off :: data⟩
  | .abandon h sl => some ⟨h, Code.abandon, [slotByte sl]⟩
  | .submit h sl tag len => some ⟨h, Code.submit, [slotByte sl] ++ leBytes 2 tag.toNat ++ [len]⟩
  | .take h => some ⟨h, Code.take, []⟩
  | .peek h => some ⟨h, Code.peek, []⟩
  | .release h k q => some ⟨h, Code.release, k :: leBytes 6 q.toNat⟩
  | .giveBack h k q => some ⟨h, Code.giveBack, k :: leBytes 6 q.toNat⟩
  | .renew h k q => some ⟨h, Code.renew, k :: leBytes 6 q.toNat⟩
  | .readBoard h b => some ⟨h, Code.readBoard, [b]⟩
  | .pull h b => some ⟨h, Code.pull, [b]⟩
  | .cancelPull h b => some ⟨h, Code.cancelPull, [b]⟩
  | .collect h b => some ⟨h, Code.collect, [b]⟩
  | .claim h => some ⟨h, Code.claim, []⟩
  | .editRule h i r => some ⟨h, Code.editRule, i :: r.bytes⟩
  | .clearRule h i => some ⟨h, Code.clearRule, [i]⟩
  | .editBoard h i b => some ⟨h, Code.editBoard, i :: b.bytes⟩
  | .readRule h i sel => some ⟨h, Code.readRule, [i, sel]⟩
  | .readBoarddef h i sel => some ⟨h, Code.readBoarddef, [i, sel]⟩
  | .commit h => some ⟨h, Code.commit, []⟩
  | .dropClaim h => some ⟨h, Code.dropClaim, []⟩
  | .status h => some ⟨h, Code.status, []⟩
  | .ackReasons h r => some ⟨h, Code.ackReasons, leBytes 2 r.toNat⟩
  | .setAttention h m => some ⟨h, Code.setAttention, leBytes 2 m.toNat⟩
  | .stats h cp ch => some ⟨h, Code.stats, [cp, ch]⟩
  | .badCommand h code args => some ⟨h, code, args⟩
  | .linkTruncated _ _ => none
  | .linkCrc _ _ => none
  | .transactionTooSoon _ => none
  | .resetNAssert => none
  | .resetNRelease => none
  | .resetNShortPulse => none
  | .tick => none
  | .leaseExpiry _ _ => none
  | .pullExpiry _ _ => none
  | .claimLapse => none
  | .silenceExpiry _ => none
  | .timeBaseAdvance => none

/-- A frame's header and arguments (R163). `upper` is what bits 7 to 4 of the second byte hold. -/
def Request.body (r : Request) (upper : BitVec 4) : List Byte :=
  r.code :: (upper ++ r.head.number) :: BitVec.ofNat 8 r.args.length :: r.args

/-- The whole frame of a request, its CRC last, low byte first (R163, R164). -/
def Request.frame (r : Request) (upper : BitVec 4) : List Byte :=
  r.body upper ++ leBytes 2 (crc16 (r.body upper)).toNat

/-- The command that a word spells by the bits of spec/opcode_table.json: its rows give no bits, so no word
spells a command. -/
def decodeTableWord (_nbits _w : Nat) : Option Instr := none

end Sys2Proof
end

