-- ==== Sys2Proof/Machine/State.lean ====
section
/-! DEFINITION. The state of the LQ4: every piece of state the spec gives the part, the queue of waiting commands, and reset. -/

namespace Sys2Proof.Machine

/-- Reasons to stop with a fault. There is none: the part answers every event with a next state (R166, R170). -/
inductive Fault where
  deriving DecidableEq, Repr

/-- Reasons to refuse a command. -/
inductive Refusal where
  /-- Raised by an arm of `exec` that has no meaning yet; safe. No arm of this model raises it. -/
  | notModelled (mnemonic : String)
  deriving DecidableEq, Repr

/-- The state of the part. `pending` and `pulses` are the model's own (log entries 1 to 3 and 6). -/
structure State where
  /-- Commands that wait to be taken, first in, first out. -/
  pending     : List Instr
  /-- The RESET_N pin: true while it is high (R173). -/
  resetN      : Bool
  /-- The 32-bit microsecond counter (R154). -/
  timeBase    : Stamp
  /-- Microseconds since the last tick, or since the release of RESET_N before the first (R155). -/
  tickPhase   : Fin 1000
  /-- The Slot Pool (R1, R2, R6). -/
  pool        : Pool
  /-- The active route table (R20). -/
  table       : Table
  /-- The table generation (R34). -/
  generation  : Half
  /-- The sequence counter (R42). -/
  sequence    : SequenceCounter
  /-- The hub undelivered counter (R47). -/
  undelivered : Half
  /-- The claim: free or held (R118). -/
  claim       : Option Claim
  /-- Each port's lanes, hand and counters (R61 to R64, R80, R81). -/
  queues      : PerPort Queue
  /-- The runtime records of the boards (R86). -/
  boards      : Vector Board 32
  /-- The pull list, in order of creation (R101). -/
  pulls       : List Pull
  /-- Each port's wanted set (R102). -/
  wanted      : PerPort BoardSet
  /-- Each port's link record (R161, R169, R172). -/
  links       : PerPort Link
  /-- Each port's session record (R135). -/
  sessions    : PerPort Session
  /-- Each port's latched reasons, enable mask and attention line (R177, R179, R180). -/
  attention   : PerPort Attention
  /-- How many RESET_N pulses shorter than 10 µs there have been: the argument of the free value of R174. -/
  pulses      : Nat
  deriving DecidableEq, Repr

/-- A cleared rule (R22). -/
def Rule.cleared : Rule where
  valid := false
  tag := 0#16
  mask := 0#16
  source := Vector.replicate 4 false
  cls := .queued .normal .refuse
  dest := Vector.replicate 4 false
  echo := false
  rewrite := none

/-- A board definition after pin reset (R32, R38). -/
def BoardDef.initial : BoardDef where
  enabled := false
  supplier := none
  pullTimeout := 1000#16

/-- The active table after pin reset (R38). -/
def Table.initial : Table where
  rules := Vector.replicate 64 Rule.cleared
  boards := Vector.replicate 32 BoardDef.initial

/-- The Slot Pool after pin reset (R3, R18). -/
def Pool.initial : Pool where
  slots := Vector.replicate 256 .free
  freeList := List.finRange 256
  poolEmpty := 0#16

/-- A port's queue after pin reset (R84). -/
def Queue.initial : Queue where
  urgent := []
  normal := []
  hand := Vector.replicate 4 none
  overflow := 0#16
  discard := 0#16
  expiry := 0#16

/-- A board's runtime record after pin reset, and of a withdrawn board (R95, R98). -/
def Board.blank : Board where
  held := none
  lastSequence := 0#48
  unread := Vector.replicate 4 false
  overwrites := Vector.replicate 4 0#8

/-- The response NOTHING_HELD (R173). -/
def Response.nothingHeld : Response where
  command := 0#8
  session := .closed
  number := 0#4
  outcome := .nothingHeld
  epoch := 0#8
  content := []

/-- A port's link record after pin reset (R173). -/
def Link.initial : Link where
  held := .nothingHeld
  lastExecuted := .nothingHeld
  lastNumber := none
  crcErrors := 0#16
  truncated := 0#16
  duplicates := 0#16

/-- A port's session record after pin reset (R152). -/
def Session.initial : Session where
  phase := .closed
  epoch := 0#8

/-- No latched reason (R177). -/
def Latched.clear : Latched where
  claimLapsed := false
  discarded := false
  overflow := false
  tableChanged := false

/-- A port's share of the Attention Unit after pin reset (R152, R179, R180). -/
def Attention.initial : Attention where
  latched := .clear
  mask := 0#16
  line := false

/-- The machine right after the release of RESET_N (R18, R38, R60, R84, R98, R116, R132, R152, R159, R173,
R179, R180). -/
def State.reset : State where
  pending := []
  resetN := true
  timeBase := 0#32
  tickPhase := 0
  pool := .initial
  table := .initial
  generation := 0#16
  sequence := .next 1#48
  undelivered := 0#16
  claim := none
  queues := Vector.replicate 4 .initial
  boards := Vector.replicate 32 .blank
  pulls := []
  wanted := Vector.replicate 4 (Vector.replicate 32 false)
  links := Vector.replicate 4 .initial
  sessions := Vector.replicate 4 .initial
  attention := Vector.replicate 4 .initial
  pulses := 0

end Sys2Proof.Machine
end

