-- ==== Sys2Proof/Machine/Ops.lean ====
section
/-! DEFINITION. The operations the meanings share: counters, timers, slots and references, lanes and hands, sessions, latched reasons. -/

namespace Sys2Proof.Machine

/-! ### Counters -/

/-- A 16-bit saturating counter raised by `n` (spec/00, Conventions). -/
def satAdd (c : Half) (n : Nat) : Half := BitVec.ofNat 16 (min 65535 (c.toNat + n))

/-- An overwrite count raised by one; it stops at 255 (R89). -/
def satByte (c : Byte) : Byte := BitVec.ofNat 8 (min 255 (c.toNat + 1))

/-! ### Timers (R156, R157) -/

/-- A timer set now for a duration in milliseconds. -/
def Timer.started (now : Stamp) (duration : Half) : Timer where
  start := now
  duration := duration
  due := false

/-- A restart keeps the duration and replaces the start (R157). -/
def Timer.restarted (t : Timer) (now : Stamp) : Timer := Timer.started now t.duration

/-- The elapsed time of a timer in microseconds, modulo 2^32 (R156). -/
def Timer.elapsed (t : Timer) (now : Stamp) : Nat := (now - t.start).toNat

/-- A timer at a tick: due from the first tick at which its duration has elapsed (R156, R158). -/
def Timer.atTick (t : Timer) (now : Stamp) : Timer :=
  { t with due := t.due || decide (t.duration.toNat * 1000 ≤ t.elapsed now) }

/-! ### Sets of ports -/

/-- How many ports a set holds. -/
def portCount (ps : PortSet) : Nat := ps.toList.countP id

/-! ### Slots, references and the free list (R1 to R18) -/

def Slot.isFree : Slot → Bool
  | .free => true
  | _ => false

/-- Whether the slot is COMPOSING with this port as owner: the test of R8, R10 and R12. -/
def Slot.composedBy (p : Port) : Slot → Bool
  | .composing owner _ => owner = p
  | _ => false

/-- The slot after one reference drop: freed when the count falls to 0 (R14, R15). -/
def Slot.dropped : Slot → Slot
  | .live m => if m.refs ≤ 1 then .free else .live { m with refs := m.refs - 1 }
  | s => s

/-- The slots after the reference drops of one event, one for each holder that let go (R14). -/
def dropAll (slots : Vector Slot 256) (refs : List SlotIx) : Vector Slot 256 :=
  refs.foldl (fun v (i : SlotIx) => v.set i v[i].dropped) slots

/-- The slots an event frees, in increasing order of index (R4). -/
def newlyFree (before after : Vector Slot 256) : List SlotIx :=
  (List.finRange 256).filter fun i => !before[i].isFree && after[i].isFree

/-- The pool after an event that changes slots: every slot the event frees joins the tail of the free list in
increasing order of index (R2, R4). -/
def Pool.after (p : Pool) (slots : Vector Slot 256) : Pool :=
  { p with slots := slots, freeList := p.freeList ++ newlyFree p.slots slots }

/-- The pool after the reference drops of one event. -/
def Pool.drop (p : Pool) (refs : List SlotIx) : Pool := p.after (dropAll p.slots refs)

/-- The number of COMPOSING slots a port owns (spec/01 section 1.6). -/
def Pool.composingCount (pl : Pool) (p : Port) : Nat := pl.slots.toList.countP (Slot.composedBy p)

/-- The slots with every COMPOSING slot of a port freed (R17). -/
def freeComposing (p : Port) (slots : Vector Slot 256) : Vector Slot 256 :=
  slots.map fun s => if s.composedBy p then .free else s

/-! ### Lanes and hands (R61 to R64, R76) -/

/-- The entries of a lane, head first. -/
def Queue.lane (q : Queue) : Lane → List Entry
  | .urgent => q.urgent
  | .normal => q.normal

/-- A queue with one lane replaced. -/
def Queue.setLane (q : Queue) (l : Lane) (es : List Entry) : Queue :=
  match l with
  | .urgent => { q with urgent := es }
  | .normal => { q with normal := es }

/-- The other lane. -/
def Lane.other : Lane → Lane
  | .urgent => .normal
  | .normal => .urgent

/-- The hand entries that stand at a handle position, in order of handle. -/
def Queue.handEntries (q : Queue) : List HandEntry := q.hand.toList.filterMap id

/-- The number of occupied handle positions (R64). -/
def Queue.handCount (q : Queue) : Nat := q.handEntries.length

/-- The number of entries in both lanes and in the hand (R63). -/
def Queue.occupancy (q : Queue) : Nat := q.urgent.length + q.normal.length + q.handCount

/-- An entry inserted just before the first entry with a greater sequence, or at the tail (R76). -/
def insertBySequence (e : Entry) : List Entry → List Entry
  | [] => [e]
  | x :: xs => if e.sequence < x.sequence then e :: x :: xs else x :: insertBySequence e xs

/-- An entry back in the lane its lane field names, at its place by sequence (R71, R74, R76). -/
def Queue.putBack (q : Queue) (e : Entry) : Queue :=
  q.setLane e.lane (insertBySequence e (q.lane e.lane))

/-- A queue with one handle position free. -/
def Queue.freeHandle (q : Queue) (k : Handle) : Queue := { q with hand := q.hand.set k none }

/-- The lowest-numbered free handle position (R66). -/
def Queue.lowestFree (q : Queue) : Option Handle := (List.finRange 4).find? fun k => q.hand[k].isNone

/-- The entry a TAKE would take: the head of the URGENT lane, or else of the NORMAL lane (R66). -/
def Queue.nextEntry (q : Queue) : Option Entry :=
  match q.urgent with
  | e :: _ => some e
  | [] => q.normal.head?

/-- A queue without the entry a TAKE would take. -/
def Queue.popNext (q : Queue) : Queue :=
  match q.urgent with
  | _ :: es => { q with urgent := es }
  | [] => { q with normal := q.normal.tail }

/-! ### Sessions (R135) -/

/-- The name of a session state. -/
def Phase.state : Phase → SessionState
  | .closed => .closed
  | .opened _ => .opened
  | .closing _ => .closing
  | .fenced => .fenced

def Phase.isOpen : Phase → Bool
  | .opened _ => true
  | _ => false

/-- The parameters and silence timer of an OPEN or CLOSING session. -/
def Phase.conn? : Phase → Option Conn
  | .opened c => some c
  | .closing c => some c
  | .closed => none
  | .fenced => none

/-- A session state with its parameters and silence timer changed, where it has them. -/
def Phase.mapConn (f : Conn → Conn) : Phase → Phase
  | .opened c => .opened (f c)
  | .closing c => .closing (f c)
  | .closed => .closed
  | .fenced => .fenced

/-- The silence timer restarted, where the silence limit is not off (R140). -/
def Conn.heard (c : Conn) (now : Stamp) : Conn :=
  { c with silence := c.silence.map fun t => t.restarted now }

/-! ### The state's blocks, one port at a time -/

def State.setQueue (s : State) (p : Port) (q : Queue) : State := { s with queues := s.queues.set p q }
def State.setLink (s : State) (p : Port) (l : Link) : State := { s with links := s.links.set p l }
def State.setSession (s : State) (p : Port) (x : Session) : State := { s with sessions := s.sessions.set p x }
def State.setAttention (s : State) (p : Port) (a : Attention) : State :=
  { s with attention := s.attention.set p a }
def State.setPool (s : State) (pl : Pool) : State := { s with pool := pl }

/-- Whether a port's session is OPEN, which is what every other block asks (spec/08). -/
def State.isOpen (s : State) (p : Port) : Bool := s.sessions[p].phase.isOpen

/-- A port's session state changed, its epoch kept. -/
def State.setPhase (s : State) (p : Port) (ph : Phase) : State :=
  s.setSession p { s.sessions[p] with phase := ph }

/-- A well-formed request restarts the port's silence deadline, where one exists (R140). -/
def State.hear (s : State) (p : Port) : State :=
  s.setPhase p (s.sessions[p].phase.mapConn fun c => c.heard s.timeBase)

/-- A port's latched flags changed. -/
def State.setLatched (s : State) (p : Port) (l : Latched) : State :=
  s.setAttention p { s.attention[p] with latched := l }

/-- The reference drops of one event (R14, R15, R4). -/
def State.dropRefs (s : State) (refs : List SlotIx) : State := s.setPool (s.pool.drop refs)

/-- The message a slot carries. Of a slot that is not LIVE, which no entry or board names (R13, R87), the
message is a free value (log entry 9). -/
def State.message (s : State) (i : SlotIx) : Message :=
  match s.pool.slots[i] with
  | .live m => m
  | _ => Config.strayMessage i

/-- The event that takes the last entry out of a CLOSING hand makes the session CLOSED, without parameters and
silence deadline, and clears the port's latched reasons (R147). -/
def State.drained (s : State) (p : Port) : State :=
  match s.sessions[p].phase with
  | .closing _ =>
    if s.queues[p].handCount = 0 then (s.setPhase p .closed).setLatched p .clear else s
  | _ => s

/-- A hand entry ends: its position is free and its reference dropped (R70, R71, R74, R75). -/
def State.endHandEntry (s : State) (p : Port) (k : Handle) (e : Entry) : State :=
  (s.setQueue p (s.queues[p].freeHandle k)).dropRefs [e.slot]

/-- The port's discard counter raised by `n` (R81). -/
def State.countDiscards (s : State) (p : Port) (n : Nat) : State :=
  s.setQueue p { s.queues[p] with discard := satAdd s.queues[p].discard n }

/-! ### Pulls (R100 to R102) -/

def Pull.isWaiting (e : Pull) : Bool :=
  match e.state with
  | .waiting _ => true
  | .done _ => false

/-- Whether the entry is a PENDING pull on this board. -/
def Pull.waitsOn (e : Pull) (b : BoardIx) : Bool := e.isWaiting && decide (e.board = b)

/-- A PENDING entry ended with an outcome, at its place in the list (R100). -/
def Pull.ended (e : Pull) (o : PullOutcome) : Pull := { e with state := .done o }

end Sys2Proof.Machine
end

