-- ==== Sys2Proof/Machine/Operands.lean ====
section
/-! DEFINITION. The operand and content forms of the link: codes of enumerated fields, sets, rules, board definitions, message
records and whole responses (R170, R175, spec/10 section 10.6). -/

namespace Sys2Proof.Machine

/-! ### Codes (R175) -/

def portByte (p : Port) : Byte := BitVec.ofNat 8 p.val

/-- A port, or FFh for absent or none. -/
def portByte? : Option Port → Byte
  | some p => portByte p
  | none => 0xFF#8

def boardByte (b : BoardIx) : Byte := BitVec.ofNat 8 b.val

def yesNo (b : Bool) : Byte := if b then 1#8 else 0#8

def SessionState.code : SessionState → BitVec 4
  | .closed => 0#4
  | .opened => 1#4
  | .closing => 2#4
  | .fenced => 3#4

def SessionState.byte (s : SessionState) : Byte := s.code.setWidth 8

def Lane.byte : Lane → Byte
  | .normal => 0#8
  | .urgent => 1#8

def FullPolicy.byte : FullPolicy → Byte
  | .refuse => 0#8
  | .dropNew => 1#8
  | .dropOldest => 2#8

def PullOutcome.byte : PullOutcome → Byte
  | .satisfied _ => 1#8
  | .expired => 2#8
  | .supplierLost => 3#8
  | .boardWithdrawn => 4#8

/-- The outcome codes (spec/10 section 10.6, Outcomes). -/
def OutcomeCode.byte : OutcomeCode → Byte
  | .ok => 0x00#8
  | .empty => 0x01#8
  | .nothingHeld => 0x02#8
  | .badCommand => 0x10#8
  | .badLength => 0x11#8
  | .badArgument => 0x12#8
  | .notOpen => 0x13#8
  | .fenced => 0x14#8
  | .closing => 0x15#8
  | .alreadyOpen => 0x16#8
  | .notFenced => 0x17#8
  | .linkCrc => 0x18#8
  | .linkTruncated => 0x19#8
  | .poolEmpty => 0x20#8
  | .composeLimit => 0x21#8
  | .notYourSlot => 0x22#8
  | .noRoute => 0x23#8
  | .queueFull => 0x24#8
  | .sequenceExhausted => 0x25#8
  | .handFull => 0x30#8
  | .staleHandle => 0x31#8
  | .boardDisabled => 0x40#8
  | .boardEmpty => 0x41#8
  | .pullListFull => 0x42#8
  | .pullLimit => 0x43#8
  | .alreadyPending => 0x44#8
  | .noSupplier => 0x45#8
  | .supplierAbsent => 0x46#8
  | .noSuchPull => 0x47#8
  | .selfSupplier => 0x48#8
  | .uncollected => 0x49#8
  | .claimHeld => 0x50#8
  | .notHolder => 0x51#8
  | .tableInvalid => 0x52#8

/-! ### Sets (R175) -/

/-- The number whose bit n is the n-th member flag. -/
def bitsNat : List Bool → Nat
  | [] => 0
  | b :: bs => b.toNat + 2 * bitsNat bs

/-- A set of ports as a byte: bit n is port n, bits 7 to 4 read 0. -/
def portSetByte (ps : PortSet) : Byte := BitVec.ofNat 8 (bitsNat ps.toList)

/-- A set of ports from a byte; bits 7 to 4 are not examined. -/
def portSetOf (b : Byte) : PortSet := Vector.ofFn fun p : Port => b.getLsbD p

/-- A set of boards as 4 bytes: bit n of the 32-bit value is board n. -/
def boardSetBytes (bs : BoardSet) : List Byte := leBytes 4 (bitsNat bs.toList)

def halfBytes (h : Half) : List Byte := leBytes 2 h.toNat

def sequenceBytes (q : Seq) : List Byte := leBytes 6 q.toNat

/-! ### Index operands (R20, R69, R103): none where the PIU refuses with BAD_ARGUMENT -/

/-- An index below `n`, or none where the byte is outside the range. -/
def indexOf (n : Nat) (b : Byte) : Option (Fin n) := if h : b.toNat < n then some ⟨b.toNat, h⟩ else none

/-- The table a selector names: 00h active, 01h shadow (R175). -/
inductive Selector where
  | active
  | shadow
  deriving DecidableEq, Repr

def selectorOf (b : Byte) : Option Selector :=
  match b.toNat with
  | 0 => some .active
  | 1 => some .shadow
  | _ => none

/-- A yes/no choice that carries a range check (R175). -/
def choiceOf (b : Byte) : Option Bool :=
  match b.toNat with
  | 0 => some false
  | 1 => some true
  | _ => none

/-- Whether bits 15 to 10 of a set of reasons are 0, as R175 demands. -/
def reasonsInRange (r : Half) : Bool := r &&& 0xFC00#16 = 0#16

/-! ### Rules and board definitions (R21, R32, R121, R175) -/

def laneOf (b : Byte) : Option Lane :=
  match b.toNat with
  | 0 => some .normal
  | 1 => some .urgent
  | _ => none

def policyOf (b : Byte) : Option FullPolicy :=
  match b.toNat with
  | 0 => some .refuse
  | 1 => some .dropNew
  | 2 => some .dropOldest
  | _ => none

/-- The class of a rule with its own fields; the fields the class makes absent are not examined (R121). -/
def ruleClassOf (r : RuleImage) : Option RuleClass :=
  match r.cls.toNat with
  | 0 =>
    match laneOf r.lane, policyOf r.policy with
    | some l, some f => some (.queued l f)
    | _, _ => none
  | 1 => (indexOf 32 r.board).map .board
  | _ => none

/-- The rule an EDIT_RULE carries, or none where the PIU refuses it with BAD_ARGUMENT (R121). -/
def ruleOf (r : RuleImage) : Option Rule :=
  (ruleClassOf r).map fun c =>
    { valid := r.flags.getLsbD 0
      tag := r.tag
      mask := r.mask
      source := portSetOf r.source
      cls := c
      dest := portSetOf r.dest
      echo := r.flags.getLsbD 1
      rewrite := if r.flags.getLsbD 2 then some r.rewrite else none }

/-- A rule as READ_RULE returns it: absent fields as FFh, an absent rewrite as 0000h, unexamined bits 0 (R175). -/
def Rule.image (r : Rule) : RuleImage where
  flags := BitVec.ofNat 8 (bitsNat [r.valid, r.echo, r.rewrite.isSome])
  cls := match r.cls with
    | .queued _ _ => 0#8
    | .board _ => 1#8
  tag := r.tag
  mask := r.mask
  source := portSetByte r.source
  dest := portSetByte r.dest
  rewrite := r.rewrite.getD 0#16
  lane := match r.cls with
    | .queued l _ => l.byte
    | .board _ => 0xFF#8
  policy := match r.cls with
    | .queued _ f => f.byte
    | .board _ => 0xFF#8
  board := match r.cls with
    | .queued _ _ => 0xFF#8
    | .board b => boardByte b

/-- The supplier field of a board definition: a port, FFh for absent, or out of range (R121). -/
def supplierOf (b : Byte) : Option (Option Port) :=
  if b = 0xFF#8 then some none else (indexOf 4 b).map some

/-- The board definition an EDIT_BOARD carries, or none where the PIU refuses it with BAD_ARGUMENT (R121). -/
def boardDefOf (b : BoardImage) : Option BoardDef :=
  if b.pullTimeout = 0#16 then none
  else (supplierOf b.supplier).map fun su =>
    { enabled := b.flags.getLsbD 0, supplier := su, pullTimeout := b.pullTimeout }

/-- A board definition as READ_BOARDDEF returns it (R175). -/
def BoardDef.image (d : BoardDef) : BoardImage where
  flags := yesNo d.enabled
  supplier := portByte? d.supplier
  pullTimeout := d.pullTimeout

/-! ### The message record (spec/10 section 10.6) -/

/-- The first 20 bytes of the record TAKE, PEEK and READ_BOARD return; `b0`, `b8` and `b9` are the bytes in
which the three differ. -/
def recordHead (b0 : Byte) (slot : SlotIx) (sequence : Seq) (b8 b9 : Byte) (m : Message) : List Byte :=
  [b0, slotByte slot] ++ sequenceBytes sequence ++ [b8, b9, portByte m.author] ++ halfBytes m.tag ++
    halfBytes m.routeTag ++ leBytes 4 m.stamp.toNat ++ [BitVec.ofNat 8 m.length.val]

/-- The first length bytes of the payload (R66, R92). -/
def Message.text (m : Message) : List Byte := m.payload.toList.take m.length.val

/-! ### Responses (R170) -/

/-- The bytes of a response: header, content and CRC, the CRC low byte first. -/
def Response.body (r : Response) : List Byte :=
  [r.command, r.session.code ++ r.number, r.outcome.byte, r.epoch, BitVec.ofNat 8 r.content.length] ++ r.content

def Response.bytes (r : Response) : List Byte := r.body ++ halfBytes (crc16 r.body)

end Sys2Proof.Machine
end

