-- ==== Sys2Proof/Machine/Flags.lean ====
section
/-! DEFINITION. Attention: the ten reasons, the pending set, the top reason, the line, and the wanted sets (R102, R176 to R181). -/

namespace Sys2Proof.Machine

/-- The ten attention reasons (R176). -/
inductive Reason where
  | fenced
  | claimLapsed
  | discarded
  | overflow
  | tableChanged
  | pullDone
  | pullWanted
  | boardUnread
  | queueUrgent
  | queueNormal
  deriving DecidableEq, Repr

/-- The reasons in order of priority, the highest first (R176). -/
def Reason.all : List Reason :=
  [.fenced, .claimLapsed, .discarded, .overflow, .tableChanged, .pullDone, .pullWanted, .boardUnread,
    .queueUrgent, .queueNormal]

/-- The priority of a reason, 1 the highest (R176). -/
def Reason.priority : Reason → Nat
  | .fenced => 1
  | .claimLapsed => 2
  | .discarded => 3
  | .overflow => 4
  | .tableChanged => 5
  | .pullDone => 6
  | .pullWanted => 7
  | .boardUnread => 8
  | .queueUrgent => 9
  | .queueNormal => 10

/-- The bit of a reason in a set of reasons: bit n − 1 for priority n (R175). -/
def Reason.bit (r : Reason) : Nat := r.priority - 1

/-- Whether the port is the requester of a DONE pull entry. -/
def State.hasDonePull (s : State) (p : Port) : Bool :=
  s.pulls.any fun e => decide (e.requester = p) && !e.isWaiting

/-- Whether a reason is pending at a port (R176). -/
def State.pendingReason (s : State) (p : Port) : Reason → Bool
  | .fenced => s.sessions[p].phase.state = .fenced
  | .claimLapsed => s.attention[p].latched.claimLapsed
  | .discarded => s.attention[p].latched.discarded
  | .overflow => s.attention[p].latched.overflow
  | .tableChanged => s.attention[p].latched.tableChanged
  | .pullDone => s.hasDonePull p
  | .pullWanted => s.wanted[p].toList.any id
  | .boardUnread => s.boards.toList.any fun b => b.unread[p]
  | .queueUrgent => !s.queues[p].urgent.isEmpty
  | .queueNormal => !s.queues[p].normal.isEmpty

/-- Whether a reason may drive the line and be named as the top reason: FENCED always, the others by the
port's enable mask (R179 to R181). -/
def State.enabledReason (s : State) (p : Port) (r : Reason) : Bool :=
  decide (r = .fenced) || s.attention[p].mask.getLsbD r.bit

/-- The pending reason of highest priority among those enabled or FENCED (R181). -/
def State.topReason (s : State) (p : Port) : Option Reason :=
  Reason.all.find? fun r => s.pendingReason p r && s.enabledReason p r

/-- The pending set as it crosses the link, whatever the mask (R176, R182). -/
def State.pendingSet (s : State) (p : Port) : Half :=
  BitVec.ofNat 16 (bitsNat (Reason.all.map (s.pendingReason p)))

/-- Whether the attention line is asserted (R180): never while RESET_N is low, else exactly when some pending
reason is enabled or is FENCED. -/
def State.lineAsserted (s : State) (p : Port) : Bool := s.resetN && (s.topReason p).isSome

/-- Whether a board is wanted at a port: the port is its supplier and a PENDING pull names it (R102). -/
def State.isWanted (s : State) (p : Port) (b : BoardIx) : Bool :=
  decide (s.table.boards[b].supplier = some p) && s.pulls.any fun e => e.waitsOn b

/-- The wanted sets brought in step with the pull list and the active table, as in every event (R102). -/
def State.refreshWanted (s : State) : State :=
  { s with wanted := Vector.ofFn fun p : Port => Vector.ofFn fun b : BoardIx => s.isWanted p b }

/-- The attention lines driven from the state, as in every event (R180). -/
def State.driveLines (s : State) : State :=
  { s with attention := Vector.ofFn fun p : Port => { s.attention[p] with line := s.lineAsserted p } }

/-- What every event does last: the wanted sets and then the lines follow the state (R102, R180). -/
def State.settle (s : State) : State := s.refreshWanted.driveLines

end Sys2Proof.Machine
end

