-- ==== Sys2Proof/Machine/Link.lean ====
section
/-! DEFINITION. The port link: the checks every request passes, the response it leaves, duplicates, and what the port drives on
data out (R136, R140, R161 to R173). -/

namespace Sys2Proof.Machine

/-- The outcome and content a request is answered with. -/
structure Reply where
  outcome : OutcomeCode
  content : List Byte
  deriving DecidableEq, Repr

/-- A refusal or acceptance whose response carries no content. -/
def Reply.bare (o : OutcomeCode) : Reply := ⟨o, []⟩

/-- What a request does once the link has passed it: its reply, and the state after it. -/
abbrev Action := State → Reply × State

/-- A refusal that changes nothing (R136, R166). -/
def refuse (o : OutcomeCode) : Action := fun s => (Reply.bare o, s)

/-- A response header and content formed from the port's state (R165, R170). -/
def State.response (s : State) (p : Port) (command : Byte) (number : BitVec 4) (r : Reply) : Response where
  command := command
  session := s.sessions[p].phase.state
  number := number
  outcome := r.outcome
  epoch := s.sessions[p].epoch
  content := r.content

/-- Whether an executed request leaves the last request number at none: an accepted OPEN does (R139, R170). -/
def forgetsNumber (code : Byte) (o : OutcomeCode) : Bool := decide (code = Code.openSession) && decide (o = .ok)

/-- The response of an executed request replaces the held response and the last executed response, and its
number becomes the last request number, but for an accepted OPEN (R139, R170). -/
def State.answer (s : State) (h : Head) (code : Byte) (r : Reply) : State :=
  let resp := s.response h.port code h.number r
  s.setLink h.port
    { s.links[h.port] with
      held := resp
      lastExecuted := resp
      lastNumber := if forgetsNumber code r.outcome then none else some h.number }

/-- Whether a request repeats the number and command of the last executed one (R169). -/
def State.isDuplicate (s : State) (h : Head) (code : Byte) : Bool :=
  decide (s.links[h.port].lastNumber = some h.number) && decide (s.links[h.port].lastExecuted.command = code)

/-- A duplicate is answered with a copy of the last executed response and counted (R169). -/
def State.replay (s : State) (p : Port) : State :=
  let l := s.links[p]
  s.setLink p { l with held := l.lastExecuted, duplicates := satAdd l.duplicates 1 }

/-- An executed request: the action is taken and answered in one event (R166, R170). -/
def State.execute (s : State) (h : Head) (code : Byte) (act : Action) : State :=
  ((act s).2.answer h code (act s).1).settle

/-- A request that passed the first check of R166: ignored while RESET_N is low (R173), else it restarts the
silence deadline (R140) and is a duplicate (R169) or is executed. -/
def State.request (s : State) (h : Head) (code : Byte) (act : Action) : State :=
  if !s.resetN then s
  else if s.isDuplicate h code then ((s.hear h.port).replay h.port).settle
  else (s.hear h.port).execute h code act

/-- An event inside the hub: nothing happens while RESET_N is low (R159, R173). -/
def State.event (s : State) (f : State → State) : State := if !s.resetN then s else (f s).settle

/-! ### The session check (R136) -/

/-- Taken in OPEN only: NOT_OPEN in CLOSED, CLOSING in CLOSING, FENCED in FENCED. -/
def whenOpen (p : Port) (act : Conn → Action) : Action := fun s =>
  match s.sessions[p].phase with
  | .closed => refuse .notOpen s
  | .opened c => act c s
  | .closing _ => refuse .closing s
  | .fenced => refuse .fenced s

/-- Taken in OPEN and in CLOSING: NOT_OPEN in CLOSED, FENCED in FENCED. -/
def whenInSession (p : Port) (act actClosing : Conn → Action) : Action := fun s =>
  match s.sessions[p].phase with
  | .closed => refuse .notOpen s
  | .opened c => act c s
  | .closing c => actClosing c s
  | .fenced => refuse .fenced s

/-- The argument check (R166 step 5): BAD_ARGUMENT where the operand is out of range. -/
def withArgument {α : Type} (x : Option α) (act : α → Action) : Action :=
  match x with
  | some a => act a
  | none => refuse .badArgument

/-! ### Frames that are no requests (R165, R167, R168) -/

/-- A frame that is truncated or fails its CRC check is answered with a response of no content; the request
is not executed (R165). -/
def State.linkError (s : State) (p : Port) (bytes : List Byte) (o : OutcomeCode) (count : Link → Link) : State :=
  if !s.resetN then s
  else
    let number : BitVec 4 := (bytes[1]?.getD 0#8).setWidth 4
    s.setLink p
      (count { s.links[p] with held := s.response p (bytes[0]?.getD 0#8) number (Reply.bare o) })

/-- POLL is not executed: it restarts the silence deadline and leaves the held response in place (R168). -/
def execPoll (h : Head) (s : State) : Host.Outcome State Fault Refusal :=
  .next (if !s.resetN then s else s.hear h.port)

/-- LINK_TRUNCATED (R165, R172). -/
def execLinkTruncated (p : Port) (bytes : List Byte) (s : State) : Host.Outcome State Fault Refusal :=
  .next (s.linkError p bytes .linkTruncated fun l => { l with truncated := satAdd l.truncated 1 })

/-- LINK_CRC (R165, R172). -/
def execLinkCrc (p : Port) (bytes : List Byte) (s : State) : Host.Outcome State Fault Refusal :=
  .next (s.linkError p bytes .linkCrc fun l => { l with crcErrors := satAdd l.crcErrors 1 })

/-- BAD_COMMAND for a code the table does not know, BAD_LENGTH for a known code: refused and executed before
duplicate detection and the session check (R167; log entry 5). -/
def execBadCommand (h : Head) (code : Byte) (_args : List Byte) (s : State) : Host.Outcome State Fault Refusal :=
  .next
    (if !s.resetN then s
     else (s.hear h.port).execute h code (refuse (if knownCode code then .badLength else .badCommand)))

/-- A transaction that starts too soon is not received and changes nothing (R162, R173). -/
def execTransactionTooSoon (_p : Port) (s : State) : Host.Outcome State Fault Refusal := .next s

end Sys2Proof.Machine

namespace Sys2Proof

open Sys2Proof.Machine in
/-- The bits a port is ready to drive when chip select goes low: the held response, each byte most significant bit
first (R161); none, so that all reads 00h, in a transaction that starts too soon or while RESET_N is low (R162,
R173). -/
def Transaction.loaded (t : Transaction) (s : State) : List Bool :=
  if s.resetN && t.startsInTime then s.links[t.port].held.bytes.flatMap bitsOf else []

open Sys2Proof.Machine in
/-- The bits a host samples on data out in a transaction that begins in state `s`: the held response as it stood
when chip select went low, then 00h (R161); 00h throughout or from a reset on where the transaction is not received
(R162, R173). -/
def Transaction.dataOut (t : Transaction) (s : State) : List Bool := drive (t.loaded s) t.edges

open Sys2Proof.Machine in
/-- The level on data out after the first `k` edges of a transaction: its first bit is there as chip select goes low,
and once chip select is high again data out is not driven (R161). -/
def Transaction.dataOutAt (t : Transaction) (s : State) (k : Nat) : Option Bool :=
  if k ≤ t.edges.length then some (outLevel ((t.edges.take k).foldl LinkEdge.shift (t.loaded s))) else none

end Sys2Proof
end

