-- ==== Sys2Proof/Machine/Boards.lean ====
section
/-! DEFINITION. READ_BOARD (R91, R92). Updates stand in Submission, withdrawal in Claims, a port's share in Sessions. -/

namespace Sys2Proof.Machine

/-- A board after a port has read it: that port's mark and count cleared (R92). -/
def Board.readBy (bd : Board) (p : Port) : Board :=
  { bd with unread := bd.unread.set p false, overwrites := bd.overwrites.set p 0#8 }

/-- READ_BOARD's record of a board (R92, spec/10 section 10.6). -/
def State.boardRecord (s : State) (p : Port) (b : BoardIx) (bd : Board) (slot : SlotIx) : List Byte :=
  recordHead (boardByte b) slot bd.lastSequence (yesNo bd.unread[p]) bd.overwrites[p] (s.message slot) ++
    (s.message slot).text

/-- READ_BOARD taken by the Board Table: BOARD_DISABLED, then BOARD_EMPTY, else the value (R91, R92). -/
def readBoardAction (p : Port) (b : BoardIx) : Action := fun s =>
  let bd := s.boards[b]
  if s.table.boards[b].enabled then
    match bd.held with
    | none => refuse .boardEmpty s
    | some slot =>
      (⟨.ok, s.boardRecord p b bd slot⟩, { s with boards := s.boards.set b (bd.readBy p) })
  else refuse .boardDisabled s

/-- READ_BOARD. -/
def execReadBoard (h : Head) (board : Byte) (s : State) : Host.Outcome State Fault Refusal :=
  .next
    (s.request h Code.readBoard
      (whenOpen h.port fun _ => withArgument (indexOf 32 board) (readBoardAction h.port)))

end Sys2Proof.Machine
end

