-- ==== Sys2Proof/Machine/Claims.lean ====
section
/-! DEFINITION. Editing the table: CLAIM, the edits, reads of either table, COMMIT, DROP_CLAIM and the claim lapse (R36, R118 to R134). -/

namespace Sys2Proof.Machine

/-- The content of an accepted CLAIM: holder and generation (R120). -/
def claimReply (p : Port) (generation : Half) : Reply := ⟨.ok, [portByte p] ++ halfBytes generation⟩

/-- CLAIM taken by the Claim Unit (R120): free, held by the requester, or held by another port. -/
def claimAction (p : Port) : Action := fun s =>
  let timer := Timer.started s.timeBase Config.claimTimeout
  match s.claim with
  | none => (claimReply p s.generation, { s with claim := some { holder := p, shadow := s.table, timer := timer } })
  | some c =>
    if c.holder = p then (claimReply p s.generation, { s with claim := some { c with timer := timer } })
    else (⟨.claimHeld, [portByte c.holder]⟩, s)

/-- CLAIM. -/
def execClaim (h : Head) (s : State) : Host.Outcome State Fault Refusal :=
  .next (s.request h Code.claim (whenOpen h.port fun _ => claimAction h.port))

/-- Taken from the holder only: NOT_HOLDER where the claim is free or another port's (R122 to R124, R127). -/
def whenHolder (p : Port) (act : Claim → Action) : Action := fun s =>
  match s.claim with
  | some c => if c.holder = p then act c s else refuse .notHolder s
  | none => refuse .notHolder s

/-- An accepted edit: the shadow changed and the claim deadline restarted, in one event (R122). -/
def editShadow (f : Table → Table) (c : Claim) : Action := fun s =>
  (Reply.bare .ok,
    { s with
      claim := some { c with shadow := f c.shadow, timer := Timer.started s.timeBase Config.claimTimeout } })

def Table.setRule (t : Table) (i : RuleIx) (r : Rule) : Table := { t with rules := t.rules.set i r }
def Table.setBoard (t : Table) (b : BoardIx) (d : BoardDef) : Table := { t with boards := t.boards.set b d }

/-- EDIT_RULE (R121, R122). -/
def execEditRule (h : Head) (index : Byte) (rule : RuleImage) (s : State) : Host.Outcome State Fault Refusal :=
  .next
    (s.request h Code.editRule
      (whenOpen h.port fun _ =>
        withArgument (indexOf 64 index) fun i =>
          withArgument (ruleOf rule) fun r =>
            whenHolder h.port (editShadow fun t => t.setRule i r)))

/-- CLEAR_RULE (R22, R121, R122). -/
def execClearRule (h : Head) (index : Byte) (s : State) : Host.Outcome State Fault Refusal :=
  .next
    (s.request h Code.clearRule
      (whenOpen h.port fun _ =>
        withArgument (indexOf 64 index) fun i =>
          whenHolder h.port (editShadow fun t => t.setRule i Rule.cleared)))

/-- EDIT_BOARD (R121, R122). -/
def execEditBoard (h : Head) (index : Byte) (board : BoardImage) (s : State) :
    Host.Outcome State Fault Refusal :=
  .next
    (s.request h Code.editBoard
      (whenOpen h.port fun _ =>
        withArgument (indexOf 32 index) fun b =>
          withArgument (boardDefOf board) fun d =>
            whenHolder h.port (editShadow fun t => t.setBoard b d)))

/-- A read of the table its selector names; the shadow is the holder's alone (R36, R123). -/
def readTable (p : Port) (sel : Selector) (content : Half → Table → List Byte) : Action :=
  match sel with
  | .active => fun s => (⟨.ok, content s.generation s.table⟩, s)
  | .shadow => whenHolder p fun c s => (⟨.ok, content s.generation c.shadow⟩, s)

/-- The content of READ_RULE: index, selector, generation of the active table, rule (R36, R123). -/
def ruleContent (index selector : Byte) (i : RuleIx) (generation : Half) (t : Table) : List Byte :=
  [index, selector] ++ halfBytes generation ++ t.rules[i].image.bytes

/-- The content of READ_BOARDDEF: index, selector, generation of the active table, definition (R36, R123). -/
def boardDefContent (index selector : Byte) (b : BoardIx) (generation : Half) (t : Table) : List Byte :=
  [index, selector] ++ halfBytes generation ++ t.boards[b].image.bytes

/-- READ_RULE (R36, R123). -/
def execReadRule (h : Head) (index selector : Byte) (s : State) : Host.Outcome State Fault Refusal :=
  .next
    (s.request h Code.readRule
      (whenOpen h.port fun _ =>
        withArgument (indexOf 64 index) fun i =>
          withArgument (selectorOf selector) fun sel =>
            readTable h.port sel (ruleContent index selector i)))

/-- READ_BOARDDEF (R36, R123). -/
def execReadBoarddef (h : Head) (index selector : Byte) (s : State) : Host.Outcome State Fault Refusal :=
  .next
    (s.request h Code.readBoarddef
      (whenOpen h.port fun _ =>
        withArgument (indexOf 32 index) fun b =>
          withArgument (selectorOf selector) fun sel =>
            readTable h.port sel (boardDefContent index selector b)))

/-- DROP_CLAIM taken by the Claim Unit (R124). -/
def dropClaimAction (p : Port) : Action := whenHolder p fun _ s => (Reply.bare .ok, { s with claim := none })

/-- DROP_CLAIM. -/
def execDropClaim (h : Head) (s : State) : Host.Outcome State Fault Refusal :=
  .next (s.request h Code.dropClaim (whenOpen h.port fun _ => dropClaimAction h.port))

/-! ### Validation (R127) -/

/-- Why a rule fails validation, as the response codes it (R127, R175). -/
inductive RuleFailure where
  | emptySource
  | boardNotEnabled
  deriving DecidableEq, Repr

def RuleFailure.byte : RuleFailure → Byte
  | .emptySource => 1#8
  | .boardNotEnabled => 2#8

/-- Whether a board rule names a board disabled in its own table. -/
def Table.namesDisabled (t : Table) (r : Rule) : Bool :=
  match r.cls with
  | .board b => !t.boards[b].enabled
  | .queued _ _ => false

/-- The failure of one rule, the reasons tested in their order; invalid rules are not examined (R127). -/
def Table.ruleFailure (t : Table) (r : Rule) : Option RuleFailure :=
  if !r.valid then none
  else if portCount r.source = 0 then some .emptySource
  else if t.namesDisabled r then some .boardNotEnabled
  else none

/-- The lowest-indexed failing rule and its reason (R127). -/
def Table.firstFailure (t : Table) : Option (RuleIx × RuleFailure) :=
  (List.finRange 64).findSome? fun i => (t.ruleFailure t.rules[i]).map fun f => (i, f)

/-! ### A successful commit (R128) -/

/-- Whether a commit withdraws the board: enabled before, disabled after (R95). -/
def withdrawn (old new : Table) (b : BoardIx) : Bool := old.boards[b].enabled && !new.boards[b].enabled

/-- The slots the withdrawn boards held (R95). -/
def State.withdrawnSlots (s : State) (new : Table) : List SlotIx :=
  (List.finRange 32).filterMap fun b => if withdrawn s.table new b then s.boards[b].held else none

/-- The board records after a commit: withdrawn ones blank, the others as they were (R95, R96). -/
def State.boardsAfter (s : State) (new : Table) : Vector Board 32 :=
  Vector.ofFn fun b : BoardIx => if withdrawn s.table new b then Board.blank else s.boards[b]

/-- How a commit ends a PENDING pull, if it does: the first case of R109 that applies. -/
def State.commitEnds (s : State) (new : Table) (e : Pull) : Option PullOutcome :=
  let d := new.boards[e.board]
  if !d.enabled then some .boardWithdrawn
  else
    match d.supplier with
    | none => some .supplierLost
    | some q => if q = e.requester then some .supplierLost else if s.isOpen q then none else some .supplierLost

/-- A pull entry after a commit (R109). -/
def State.commitPull (s : State) (new : Table) (e : Pull) : Pull :=
  if e.isWaiting then
    match s.commitEnds new e with
    | some o => e.ended o
    | none => e
  else e

/-- TABLE_CHANGED latched at every OPEN port but the committer (R128). -/
def State.latchTableChanged (s : State) (committer : Port) : State :=
  { s with
    attention := Vector.ofFn fun p : Port =>
      if s.isOpen p && decide (p ≠ committer) then
        { s.attention[p] with latched := { s.attention[p].latched with tableChanged := true } }
      else s.attention[p] }

/-- The event of a successful commit: table, generation, claim, boards, pulls and reasons (R35, R95, R109, R128). -/
def State.commitTable (s : State) (p : Port) (new : Table) : State :=
  { ((s.dropRefs (s.withdrawnSlots new)).latchTableChanged p) with
    table := new
    generation := s.generation + 1#16
    claim := none
    boards := s.boardsAfter new
    pulls := s.pulls.map (s.commitPull new) }

/-- COMMIT from the holder: TABLE_INVALID with the failing rule and reason, or the commit (R127, R128). -/
def commitShadow (p : Port) (c : Claim) : Action := fun s =>
  match c.shadow.firstFailure with
  | some (i, f) => (⟨.tableInvalid, [BitVec.ofNat 8 i.val, f.byte]⟩, s)
  | none => (⟨.ok, halfBytes (s.generation + 1#16)⟩, s.commitTable p c.shadow)

/-- COMMIT. -/
def execCommit (h : Head) (s : State) : Host.Outcome State Fault Refusal :=
  .next (s.request h Code.commit (whenOpen h.port fun _ => whenHolder h.port (commitShadow h.port)))

/-! ### The lapse of the claim (R125) -/

/-- The claim freed, the shadow discarded, CLAIM_LAPSED latched at the former holder (R125). -/
def State.lapseClaim (s : State) (c : Claim) : State :=
  { s.setLatched c.holder { s.attention[c.holder].latched with claimLapsed := true } with claim := none }

/-- CLAIM_LAPSE: taken only while the claim is held and its timer is due (R125, R158; log entry 7). -/
def execClaimLapse (s : State) : Host.Outcome State Fault Refusal :=
  .next
    (match s.claim with
      | some c => if c.timer.due then s.event fun s => s.lapseClaim c else s
      | none => s)

end Sys2Proof.Machine
end

