-- ==== Sys2Proof/Machine/Pulls.lean ====
section
/-! DEFINITION. Pull requests: PULL, CANCEL_PULL, COLLECT and the pull expiry (R100 to R117). -/

namespace Sys2Proof.Machine

/-- Whether an entry is this requester's on this board. -/
def Pull.isFor (e : Pull) (p : Port) (b : BoardIx) : Bool := decide (e.requester = p) && decide (e.board = b)

/-- Whether the requester has a PENDING entry on the board. -/
def State.hasWaiting (s : State) (p : Port) (b : BoardIx) : Bool :=
  s.pulls.any fun e => e.isFor p b && e.isWaiting

/-- Whether the requester has a DONE entry on the board. -/
def State.hasDone (s : State) (p : Port) (b : BoardIx) : Bool :=
  s.pulls.any fun e => e.isFor p b && !e.isWaiting

/-- The number of entries of one requester (R101). -/
def State.pullCount (s : State) (p : Port) : Nat := s.pulls.countP fun e => decide (e.requester = p)

/-- The checks on the list, for a board with an OPEN supplier other than the requester (R104, conditions 5 to 8),
and the entry a PULL that passes them appends. -/
def pullFrom (p : Port) (b : BoardIx) (supplier : Port) (timeout : Half) : Action := fun s =>
  if s.hasWaiting p b then refuse .alreadyPending s
  else if s.hasDone p b then refuse .uncollected s
  else if Config.pullsPerPort ≤ s.pullCount p then refuse .pullLimit s
  else if Config.pullListSize ≤ s.pulls.length then refuse .pullListFull s
  else
    (⟨.ok, [boardByte b, portByte supplier] ++ halfBytes timeout⟩,
      { s with
        pulls := s.pulls ++
          [{ requester := p, board := b, state := .waiting (Timer.started s.timeBase timeout) }] })

/-- PULL taken by the Pull Unit: the conditions of R104 in their order. -/
def pullAction (p : Port) (b : BoardIx) : Action := fun s =>
  let d := s.table.boards[b]
  if d.enabled then
    match d.supplier with
    | none => refuse .noSupplier s
    | some q =>
      if q = p then refuse .selfSupplier s
      else if s.isOpen q then pullFrom p b q d.pullTimeout s
      else refuse .supplierAbsent s
  else refuse .boardDisabled s

/-- PULL. -/
def execPull (h : Head) (board : Byte) (s : State) : Host.Outcome State Fault Refusal :=
  .next
    (s.request h Code.pull
      (whenOpen h.port fun _ => withArgument (indexOf 32 board) (pullAction h.port)))

/-- CANCEL_PULL taken by the Pull Unit: the requester's PENDING entry removed (R113). -/
def cancelPullAction (p : Port) (b : BoardIx) : Action := fun s =>
  if s.hasWaiting p b then
    (Reply.bare .ok, { s with pulls := s.pulls.filter fun e => !(e.isFor p b && e.isWaiting) })
  else refuse .noSuchPull s

/-- CANCEL_PULL. -/
def execCancelPull (h : Head) (board : Byte) (s : State) : Host.Outcome State Fault Refusal :=
  .next
    (s.request h Code.cancelPull
      (whenOpen h.port fun _ => withArgument (indexOf 32 board) (cancelPullAction h.port)))

/-- The satisfying sequence a COLLECT reports, 0 for the other outcomes (spec/10 section 10.6). -/
def PullOutcome.sequence : PullOutcome → Seq
  | .satisfied n => n
  | .expired => 0#48
  | .supplierLost => 0#48
  | .boardWithdrawn => 0#48

/-- The outcome of the requester's DONE entry on the board. -/
def State.doneOutcome (s : State) (p : Port) (b : BoardIx) : Option PullOutcome :=
  s.pulls.findSome? fun e =>
    match e.state with
    | .done o => if e.isFor p b then some o else none
    | .waiting _ => none

/-- COLLECT taken by the Pull Unit: the requester's DONE entry removed and its outcome returned (R114). -/
def collectAction (p : Port) (b : BoardIx) : Action := fun s =>
  match s.doneOutcome p b with
  | none => refuse .noSuchPull s
  | some o =>
    (⟨.ok, [boardByte b, o.byte] ++ sequenceBytes o.sequence⟩,
      { s with pulls := s.pulls.filter fun e => !(e.isFor p b && !e.isWaiting) })

/-- COLLECT. -/
def execCollect (h : Head) (board : Byte) (s : State) : Host.Outcome State Fault Refusal :=
  .next
    (s.request h Code.collect
      (whenOpen h.port fun _ => withArgument (indexOf 32 board) (collectAction h.port)))

/-- Whether the entry is PENDING and its timer is due (R107). -/
def Pull.isDue (e : Pull) : Bool :=
  match e.state with
  | .waiting t => t.due
  | .done _ => false

/-- The requester's due entry on a board ended EXPIRED, at its place in the list (R107). -/
def expirePull (p : Port) (b : BoardIx) (e : Pull) : Pull :=
  if e.isFor p b && e.isDue then e.ended .expired else e

/-- PULL_EXPIRY: taken only for an entry still PENDING whose timer is due (R107, R158; log entry 7). -/
def execPullExpiry (p : Port) (b : BoardIx) (s : State) : Host.Outcome State Fault Refusal :=
  .next
    (if s.pulls.any fun e => e.isFor p b && e.isDue then
      s.event fun s => { s with pulls := s.pulls.map (expirePull p b) }
     else s)

end Sys2Proof.Machine
end

