-- ==== Sys2Proof/Machine/Queues.lean ====
section
/-! DEFINITION. Taking and leases: TAKE, PEEK, RELEASE, RETURN, RENEW and the lease expiry (R61 to R85). -/

namespace Sys2Proof.Machine

/-- TAKE's and PEEK's record of an entry, without the payload (spec/10 section 10.6). -/
def State.entryRecord (s : State) (first : Byte) (e : Entry) : List Byte :=
  recordHead first e.slot e.sequence e.lane.byte (BitVec.ofNat 8 e.redelivery) (s.message e.slot)

/-- An entry moved from the head of its lane to a handle position under a new lease (R64, R66). -/
def Queue.takeInto (q : Queue) (k : Handle) (e : Entry) (lease : Timer) : Queue :=
  { q.popNext with hand := q.hand.set k (some { entry := e, lease := lease }) }

/-- TAKE taken by the Queue Manager: HAND_FULL, then EMPTY, else the next entry into the lowest free handle (R66). -/
def takeAction (p : Port) (c : Conn) : Action := fun s =>
  let q := s.queues[p]
  match q.lowestFree with
  | none => refuse .handFull s
  | some k =>
    match q.nextEntry with
    | none => refuse .empty s
    | some e =>
      (⟨.ok, s.entryRecord (BitVec.ofNat 8 k.val) e ++ (s.message e.slot).text⟩,
        s.setQueue p (q.takeInto k e (Timer.started s.timeBase c.lease)))

/-- TAKE. -/
def execTake (h : Head) (s : State) : Host.Outcome State Fault Refusal :=
  .next (s.request h Code.take (whenOpen h.port (takeAction h.port)))

/-- PEEK taken by the Queue Manager: the entry a TAKE would take, without change (R67). -/
def peekAction (p : Port) : Action := fun s =>
  match s.queues[p].nextEntry with
  | none => refuse .empty s
  | some e => (⟨.ok, s.entryRecord 0xFF#8 e⟩, s)

/-- PEEK. -/
def execPeek (h : Head) (s : State) : Host.Outcome State Fault Refusal :=
  .next (s.request h Code.peek (whenOpen h.port fun _ => peekAction h.port))

/-- The test that RELEASE, RETURN and RENEW share: the position is occupied and its entry carries the quoted
sequence, else STALE_HANDLE (R69). -/
def withHandEntry (p : Port) (k : Handle) (sequence : Seq) (act : HandEntry → Action) : Action := fun s =>
  match s.queues[p].hand[k] with
  | some x => if x.entry.sequence = sequence then act x s else refuse .staleHandle s
  | none => refuse .staleHandle s

/-- RELEASE that passes the test: the entry ends and its reference is dropped (R70, R147). -/
def releaseEntry (p : Port) (k : Handle) (x : HandEntry) : Action := fun s =>
  (Reply.bare .ok, (s.endHandEntry p k x.entry).drained p)

/-- RELEASE once the link has passed it (R65, R69, R70). -/
def releaseAction (p : Port) (handle : Byte) (sequence : Seq) : Action :=
  let act : Conn → Action := fun _ =>
    withArgument (indexOf 4 handle) fun k => withHandEntry p k sequence (releaseEntry p k)
  whenInSession p act act

/-- RELEASE. -/
def execRelease (h : Head) (handle : Byte) (sequence : Seq) (s : State) : Host.Outcome State Fault Refusal :=
  .next (s.request h Code.release (releaseAction h.port handle sequence))

/-- RETURN in OPEN: the entry back in its lane, RETURNED (R71). -/
def returnToLane (p : Port) (k : Handle) (x : HandEntry) : Action := fun s =>
  (⟨.ok, [0#8]⟩, s.setQueue p ((s.queues[p].freeHandle k).putBack x.entry))

/-- RETURN in CLOSING: the entry discarded and counted, DISCARDED not latched (R71, R147). -/
def returnDiscards (p : Port) (k : Handle) (x : HandEntry) : Action := fun s =>
  (⟨.ok, [1#8]⟩, ((s.endHandEntry p k x.entry).countDiscards p 1).drained p)

/-- RETURN once the link has passed it (R65, R69, R71). -/
def returnAction (p : Port) (handle : Byte) (sequence : Seq) : Action :=
  whenInSession p
    (fun _ => withArgument (indexOf 4 handle) fun k => withHandEntry p k sequence (returnToLane p k))
    (fun _ => withArgument (indexOf 4 handle) fun k => withHandEntry p k sequence (returnDiscards p k))

/-- RETURN. -/
def execGiveBack (h : Head) (handle : Byte) (sequence : Seq) (s : State) : Host.Outcome State Fault Refusal :=
  .next (s.request h Code.giveBack (returnAction h.port handle sequence))

/-- RENEW that passes the test: the lease restarted with the port's lease time (R72). -/
def renewLease (p : Port) (c : Conn) (k : Handle) (x : HandEntry) : Action := fun s =>
  let q := s.queues[p]
  (Reply.bare .ok,
    s.setQueue p { q with hand := q.hand.set k (some { x with lease := Timer.started s.timeBase c.lease }) })

/-- RENEW. -/
def execRenew (h : Head) (handle : Byte) (sequence : Seq) (s : State) : Host.Outcome State Fault Refusal :=
  .next
    (s.request h Code.renew
      (whenOpen h.port fun c =>
        withArgument (indexOf 4 handle) fun k => withHandEntry h.port k sequence (renewLease h.port c k)))

/-! ### Lease expiry (R73 to R78) -/

/-- The port's expiry counter raised by one (R81). -/
def State.countExpiry (s : State) (p : Port) : State :=
  s.setQueue p { s.queues[p] with expiry := satAdd s.queues[p].expiry 1 }

/-- DISCARDED latched at a port (R74, R75). -/
def State.latchDiscarded (s : State) (p : Port) : State :=
  s.setLatched p { s.attention[p].latched with discarded := true }

/-- A hand entry discarded by its lease expiry: reference dropped, discard counted, DISCARDED latched (R74, R75). -/
def State.discardLapsed (s : State) (p : Port) (k : Handle) (e : Entry) : State :=
  ((s.endHandEntry p k e).countDiscards p 1).latchDiscarded p

/-- A lease expiry in OPEN: the redelivery count rises; below the limit the entry goes back to its lane, at the
limit it is discarded (R74). -/
def State.lapseOpen (s : State) (p : Port) (c : Conn) (k : Handle) (e : Entry) : State :=
  let e' : Entry := { e with redelivery := e.redelivery + 1 }
  if e'.redelivery < c.redelivery then s.setQueue p ((s.queues[p].freeHandle k).putBack e')
  else s.discardLapsed p k e'

/-- A lease expiry taken (R74, R75): only in OPEN and CLOSING does a lease timer exist (R73). -/
def State.lapse (s : State) (p : Port) (k : Handle) (e : Entry) : State :=
  match s.sessions[p].phase with
  | .opened c => (s.countExpiry p).lapseOpen p c k e
  | .closing _ => ((s.countExpiry p).discardLapsed p k e).drained p
  | .closed => s
  | .fenced => s

/-- LEASE_EXPIRY: taken only for an entry that occupies its position and whose timer is due (R73, R158; log
entry 7). -/
def execLeaseExpiry (p : Port) (k : Handle) (s : State) : Host.Outcome State Fault Refusal :=
  .next
    (match s.queues[p].hand[k] with
      | some x => if x.lease.due then s.event fun s => s.lapse p k x.entry else s
      | none => s)

end Sys2Proof.Machine
end

