-- ==== Sys2Proof/Machine/Reporting.lean ====
section
/-! DEFINITION. STATUS, ACK_REASONS, SET_ATTENTION and STATS (R133, R182 to R186). -/

namespace Sys2Proof.Machine

/-! ### STATUS (R182) -/

/-- The top reason as a byte: 00h for NONE, else its priority (R175). -/
def topReasonByte : Option Reason → Byte
  | some r => BitVec.ofNat 8 r.priority
  | none => 0#8

/-- The boards on which a port's unread mark is set (R99). -/
def State.unreadBoards (s : State) (p : Port) : BoardSet := s.boards.map fun b => b.unread[p]

/-- Board and outcome of each DONE entry of a requester, in list order (R101, R117). -/
def State.doneList (s : State) (p : Port) : List (BoardIx × PullOutcome) :=
  s.pulls.filterMap fun e =>
    match e.state with
    | .done o => if e.requester = p then some (e.board, o) else none
    | .waiting _ => none

/-- The content of STATUS (R182, spec/10 section 10.6). -/
def State.statusContent (s : State) (p : Port) : List Byte :=
  let q := s.queues[p]
  let done := s.doneList p
  [s.sessions[p].phase.state.byte, s.sessions[p].epoch, topReasonByte (s.topReason p)] ++
    halfBytes (s.pendingSet p) ++ halfBytes s.attention[p].mask ++
    [BitVec.ofNat 8 q.urgent.length, BitVec.ofNat 8 q.normal.length, BitVec.ofNat 8 q.handCount,
      BitVec.ofNat 8 (s.pool.composingCount p)] ++
    boardSetBytes (s.unreadBoards p) ++ boardSetBytes s.wanted[p] ++ halfBytes s.generation ++
    [portByte? (s.claim.map fun c => c.holder)] ++ leBytes 2 s.pool.freeList.length ++
    [BitVec.ofNat 8 done.length] ++ done.flatMap fun x => [boardByte x.1, x.2.byte]

/-- STATUS: taken in every session state, changes nothing it reports (R182). -/
def execStatus (h : Head) (s : State) : Host.Outcome State Fault Refusal :=
  .next (s.request h Code.status fun s => (⟨.ok, s.statusContent h.port⟩, s))

/-! ### ACK_REASONS and SET_ATTENTION (R183, R185) -/

/-- A set of reasons that passes the range check (R175). -/
def reasonsOf (r : Half) : Option Half := if reasonsInRange r then some r else none

/-- The latched flags without those a set of reasons names (R177, R183). -/
def Latched.acknowledge (l : Latched) (r : Half) : Latched where
  claimLapsed := l.claimLapsed && !r.getLsbD Reason.claimLapsed.bit
  discarded := l.discarded && !r.getLsbD Reason.discarded.bit
  overflow := l.overflow && !r.getLsbD Reason.overflow.bit
  tableChanged := l.tableChanged && !r.getLsbD Reason.tableChanged.bit

/-- ACK_REASONS taken by the Attention Unit (R183). -/
def ackAction (p : Port) (r : Half) : Action := fun s =>
  (Reply.bare .ok, s.setLatched p (s.attention[p].latched.acknowledge r))

/-- ACK_REASONS. -/
def execAckReasons (h : Head) (reasons : Half) (s : State) : Host.Outcome State Fault Refusal :=
  .next
    (s.request h Code.ackReasons
      (whenInSession h.port (fun _ => withArgument (reasonsOf reasons) (ackAction h.port))
        (fun _ => withArgument (reasonsOf reasons) (ackAction h.port))))

/-- A mask with the FENCED position taken as 0 (R179, R185). -/
def maskOf (m : Half) : Half := m &&& 0xFFFE#16

/-- SET_ATTENTION taken by the Attention Unit (R185). -/
def setMaskAction (p : Port) (m : Half) : Action := fun s =>
  (Reply.bare .ok, s.setAttention p { s.attention[p] with mask := maskOf m })

/-- SET_ATTENTION. -/
def execSetAttention (h : Head) (mask : Half) (s : State) : Host.Outcome State Fault Refusal :=
  .next
    (s.request h Code.setAttention
      (whenInSession h.port (fun _ => withArgument (reasonsOf mask) (setMaskAction h.port))
        (fun _ => withArgument (reasonsOf mask) (setMaskAction h.port))))

/-! ### STATS (R133, R186) -/

/-- The eight counters as they stand (R186). -/
def State.counters (s : State) (p : Port) : List Byte :=
  halfBytes s.queues[p].overflow ++ halfBytes s.queues[p].discard ++ halfBytes s.queues[p].expiry ++
    halfBytes s.links[p].crcErrors ++ halfBytes s.links[p].truncated ++ halfBytes s.links[p].duplicates ++
    halfBytes s.undelivered ++ halfBytes s.pool.poolEmpty

/-- The six counters of a port at 0 (R186). -/
def State.clearPortCounters (s : State) (p : Port) : State :=
  (s.setQueue p { s.queues[p] with overflow := 0#16, discard := 0#16, expiry := 0#16 }).setLink p
    { s.links[p] with crcErrors := 0#16, truncated := 0#16, duplicates := 0#16 }

/-- The two hub counters at 0 (R133). -/
def State.clearHubCounters (s : State) : State :=
  { s with undelivered := 0#16, pool := { s.pool with poolEmpty := 0#16 } }

/-- Whether the port holds the claim. -/
def State.holdsClaim (s : State) (p : Port) : Bool := (s.claim.map fun c => c.holder) = some p

/-- STATS taken: the counters as they stood, then the clearing its choices and the claim allow (R133, R186). -/
def statsAction (p : Port) (clearPort clearHub : Bool) : Action := fun s =>
  let s' := if clearPort then s.clearPortCounters p else s
  if clearHub then
    if s.holdsClaim p then (⟨.ok, s.counters p⟩, s'.clearHubCounters)
    else (⟨.notHolder, s.counters p⟩, s')
  else (⟨.ok, s.counters p⟩, s')

/-- STATS once the link has passed it: refused in FENCED only (R136, R186). -/
def statsGate (p : Port) (clearPort clearHub : Byte) : Action := fun s =>
  match s.sessions[p].phase with
  | .fenced => refuse .fenced s
  | _ =>
    withArgument (choiceOf clearPort)
      (fun cp => withArgument (choiceOf clearHub) fun ch => statsAction p cp ch) s

/-- STATS. -/
def execStats (h : Head) (clearPort clearHub : Byte) (s : State) : Host.Outcome State Fault Refusal :=
  .next (s.request h Code.stats (statsGate h.port clearPort clearHub))

end Sys2Proof.Machine
end

