-- ==== Sys2Proof/Machine/Sessions.lean ====
section
/-! DEFINITION. Port sessions: OPEN, CLOSE, UNFENCE, RESET_PORT, the silence expiry, and the teardown they share (R135 to R153). -/

namespace Sys2Proof.Machine

/-! ### The parameters of an OPEN (R137) -/

/-- The lease time in force. -/
def leaseInForce (v : Half) : Half := if v = 0#16 then 1000#16 else v

/-- The silence limit in force: off (`some none`), a limit in ms, or out of range. -/
def silenceInForce (off : Byte) (limit : Half) : Option (Option Half) :=
  match choiceOf off with
  | some true => if limit = 0#16 then some none else none
  | some false =>
    if limit = 0#16 then some (some 2000#16)
    else if limit.toNat < 10 then none
    else some (some limit)
  | none => none

/-- A one-byte parameter in force: 0 asks for the default, up to `most` is taken, more is out of range. -/
def limitInForce (default most : Nat) (v : Byte) : Option Nat :=
  if v = 0#8 then some default else if v.toNat ≤ most then some v.toNat else none

/-- The parameters an OPEN taken now puts in force, with the silence timer it starts, or none where a field
gives BAD_ARGUMENT (R137, R138). -/
def connOf (a : OpenArgs) (now : Stamp) : Option Conn :=
  match silenceInForce a.silenceOff a.silence, limitInForce 32 128 a.depth, limitInForce 4 16 a.composing,
    limitInForce 3 7 a.redelivery with
  | some silence, some depth, some composing, some redelivery =>
    some
      { lease := leaseInForce a.lease
        silence := silence.map (Timer.started now)
        depth := depth
        composing := composing
        redelivery := redelivery }
  | _, _, _, _ => none

/-- The silence limit of a session: off, or milliseconds (R135). -/
def Conn.silenceLimit (c : Conn) : Option Half := c.silence.map fun t => t.duration

/-- The parameters in force, in the order of OPEN's arguments; silence limit 0 with flag yes for off (R138,
spec/10 section 10.6). -/
def Conn.bytes (c : Conn) : List Byte :=
  halfBytes c.lease ++ halfBytes (c.silenceLimit.getD 0#16) ++
    [yesNo c.silence.isNone, BitVec.ofNat 8 c.depth, BitVec.ofNat 8 c.composing, BitVec.ofNat 8 c.redelivery]

/-- The enable mask with every maskable reason enabled (R179). -/
def maskAll : Half := 0x03FE#16

/-- An accepted OPEN: session OPEN under the next epoch, latched reasons clear, every reason enabled (R138). -/
def State.opened (s : State) (p : Port) (c : Conn) : State :=
  (s.setSession p { phase := .opened c, epoch := s.sessions[p].epoch + 1#8 }).setAttention p
    { s.attention[p] with latched := .clear, mask := maskAll }

/-- OPEN once the link has passed it (R136 to R138). -/
def openAction (p : Port) (a : OpenArgs) : Action := fun s =>
  match s.sessions[p].phase with
  | .closed => withArgument (connOf a s.timeBase) (fun c s => (⟨.ok, c.bytes⟩, s.opened p c)) s
  | .opened _ => refuse .alreadyOpen s
  | .closing _ => refuse .closing s
  | .fenced => refuse .fenced s

/-- OPEN. -/
def execOpen (h : Head) (a : OpenArgs) (s : State) : Host.Outcome State Fault Refusal :=
  .next (s.request h Code.openSession (openAction h.port a))

/-! ### Teardown (R143, R144) -/

/-- The slots the entries of a port's lanes, and of its hand where it is discarded, refer to. -/
def Queue.tornRefs (q : Queue) (discardHand : Bool) : List SlotIx :=
  (q.urgent ++ q.normal).map (fun e => e.slot) ++
    (if discardHand then q.handEntries.map (fun x => x.entry.slot) else [])

/-- The Slot Pool's and Queue Manager's part: COMPOSING slots freed, lanes flushed, and on a fence or RESET_PORT
the hand discarded and counted (R17, R83). All the slots freed join the free list together (R4). -/
def State.tearSlots (s : State) (p : Port) (discardHand : Bool) : State :=
  s.setPool (s.pool.after (dropAll (freeComposing p s.pool.slots) (s.queues[p].tornRefs discardHand)))

def State.tearQueue (s : State) (p : Port) (discardHand : Bool) : State :=
  let q := s.queues[p]
  let kept : Queue := { q with urgent := [], normal := [] }
  s.setQueue p
    (if discardHand then
      { kept with hand := Vector.replicate 4 none, discard := satAdd q.discard q.handCount }
     else kept)

/-- A board without a port's unread mark and overwrite count (R97). -/
def Board.forget (p : Port) (b : Board) : Board :=
  { b with unread := b.unread.set p false, overwrites := b.overwrites.set p 0#8 }

/-- The Board Table's part (R97). -/
def State.tearBoards (s : State) (p : Port) : State := { s with boards := s.boards.map (Board.forget p) }

/-- A pull entry when a port's session ends: a PENDING one on a board the port supplies ends SUPPLIER_LOST (R108). -/
def State.loseSupplier (s : State) (p : Port) (e : Pull) : Pull :=
  if e.isWaiting && decide (s.table.boards[e.board].supplier = some p) then e.ended .supplierLost else e

/-- The Pull Unit's part: the port's own entries removed, those it supplied ended (R108, R115). -/
def State.tearPulls (s : State) (p : Port) : State :=
  { s with pulls := (s.pulls.filter fun e => decide (e.requester ≠ p)).map (s.loseSupplier p) }

/-- The Claim Unit's part: a claim the port holds is freed with its shadow (R131). -/
def State.tearClaim (s : State) (p : Port) : State :=
  { s with claim := s.claim.filter fun c => decide (c.holder ≠ p) }

/-- The teardown of a port's session: the port's share of every block taken back in one event (R143). -/
def State.teardown (s : State) (p : Port) (discardHand : Bool) : State :=
  (((((s.tearSlots p discardHand).tearQueue p discardHand).tearBoards p).tearPulls p).tearClaim p).setLatched p
    .clear

/-! ### CLOSE, UNFENCE, RESET_PORT, silence expiry -/

/-- The content of the responses to CLOSE and RESET_PORT: a state and a number of hand entries. -/
def stateAndCount (st : SessionState) (n : Nat) : Reply := ⟨.ok, [st.byte, BitVec.ofNat 8 n]⟩

/-- A CLOSE taken in OPEN (R145): teardown with the hand kept, then CLOSING if it holds entries, else CLOSED. -/
def closeOpened (p : Port) (c : Conn) : Action := fun s =>
  let n := s.queues[p].handCount
  let phase : Phase := if n = 0 then .closed else .closing c
  (stateAndCount phase.state n, (s.teardown p false).setPhase p phase)

/-- CLOSE once the link has passed it; in CLOSING it changes nothing (R145, R146). -/
def closeAction (p : Port) : Action :=
  whenInSession p (closeOpened p) (fun _ s => (stateAndCount .closing s.queues[p].handCount, s))

/-- CLOSE. -/
def execClose (h : Head) (s : State) : Host.Outcome State Fault Refusal :=
  .next (s.request h Code.close (closeAction h.port))

/-- UNFENCE once the link has passed it (R149). -/
def unfenceAction (p : Port) : Action := fun s =>
  match s.sessions[p].phase with
  | .fenced => (Reply.bare .ok, s.setPhase p .closed)
  | .closed => refuse .notFenced s
  | .opened _ => refuse .notFenced s
  | .closing _ => refuse .notFenced s

/-- UNFENCE. -/
def execUnfence (h : Head) (s : State) : Host.Outcome State Fault Refusal :=
  .next (s.request h Code.unfence (unfenceAction h.port))

/-- The hand entries left to a CLOSING port discarded and counted, and its latched reasons cleared (R148, R150). -/
def State.discardHand (s : State) (p : Port) : State :=
  let q := s.queues[p]
  ((s.setQueue p { q with hand := Vector.replicate 4 none, discard := satAdd q.discard q.handCount }).dropRefs
    (q.handEntries.map fun x => x.entry.slot)).setLatched p .clear

/-- What a RESET_PORT takes back in each state (R150). -/
def State.resetShare (s : State) (p : Port) : State :=
  match s.sessions[p].phase with
  | .opened _ => s.teardown p true
  | .closing _ => s.discardHand p
  | .fenced => s
  | .closed => s

/-- RESET_PORT once the link has passed it (R150). -/
def resetPortAction (p : Port) : Action := fun s =>
  (stateAndCount s.sessions[p].phase.state s.queues[p].handCount, (s.resetShare p).setPhase p .closed)

/-- RESET_PORT. -/
def execResetPort (h : Head) (s : State) : Host.Outcome State Fault Refusal :=
  .next (s.request h Code.resetPort (resetPortAction h.port))

/-- Whether the port's silence timer is due (R141, R156). -/
def State.silenceDue (s : State) (p : Port) : Bool :=
  match s.sessions[p].phase.conn? with
  | some c =>
    match c.silence with
    | some t => t.due
    | none => false
  | none => false

/-- The fence: full teardown with the hand discarded, and the session FENCED (R141). -/
def State.fence (s : State) (p : Port) : State := (s.teardown p true).setPhase p .fenced

/-- SILENCE_EXPIRY: taken only where the port's silence timer is due (R141, R158; log entry 7). -/
def execSilenceExpiry (p : Port) (s : State) : Host.Outcome State Fault Refusal :=
  .next (if s.silenceDue p then s.event fun s => s.fence p else s)

end Sys2Proof.Machine
end

