-- ==== Sys2Proof/Machine/SlotPool.lean ====
section
/-! DEFINITION. The Slot Pool's requests: RESERVE, WRITE, ABANDON (R5 to R11). -/

namespace Sys2Proof.Machine

/-- The zeroed payload RESERVE leaves (R5). -/
def Payload.zero : Payload := Vector.replicate 64 0#8

/-- RESERVE taken by the pool: COMPOSE_LIMIT, then POOL_EMPTY, else the head of the free list (R5, R6). -/
def reserveAction (p : Port) (c : Conn) : Action := fun s =>
  if s.pool.composingCount p = c.composing then refuse .composeLimit s
  else
    match s.pool.freeList with
    | [] => (Reply.bare .poolEmpty, s.setPool { s.pool with poolEmpty := satAdd s.pool.poolEmpty 1 })
    | i :: rest =>
      (⟨.ok, [slotByte i, BitVec.ofNat 8 rest.length]⟩,
        s.setPool { s.pool with slots := s.pool.slots.set i (.composing p Payload.zero), freeList := rest })

/-- RESERVE. -/
def execReserve (h : Head) (s : State) : Host.Outcome State Fault Refusal :=
  .next (s.request h Code.reserve (whenOpen h.port (reserveAction h.port)))

/-- A payload with a run of bytes stored from an offset on; bytes beyond the payload are not stored (R8). -/
def Payload.store (pl : Payload) (offset : Nat) (data : List Byte) : Payload :=
  Vector.ofFn fun i : Fin 64 => if offset ≤ i.val then (data[i.val - offset]?).getD pl[i] else pl[i]

/-- WRITE taken by the pool: the slot must be COMPOSING with the requester as owner (R8). -/
def writeAction (p : Port) (slot : SlotIx) (offset : Nat) (data : List Byte) : Action := fun s =>
  match s.pool.slots[slot] with
  | .composing owner payload =>
    if owner = p then
      (Reply.bare .ok,
        s.setPool { s.pool with slots := s.pool.slots.set slot (.composing p (payload.store offset data)) })
    else refuse .notYourSlot s
  | .free => refuse .notYourSlot s
  | .live _ => refuse .notYourSlot s

/-- The range check of WRITE: offset plus count at most 64 (R8). -/
def writeOffset (offset : Byte) (data : List Byte) : Option Nat :=
  if offset.toNat + data.length ≤ 64 then some offset.toNat else none

/-- WRITE. -/
def execWrite (h : Head) (slot : SlotIx) (offset : Byte) (data : List Byte) (s : State) :
    Host.Outcome State Fault Refusal :=
  .next
    (s.request h Code.write
      (whenOpen h.port fun _ =>
        withArgument (writeOffset offset data) fun off => writeAction h.port slot off data))

/-- ABANDON taken by the pool: the slot joins the tail of the free list (R10). -/
def abandonAction (p : Port) (slot : SlotIx) : Action := fun s =>
  if s.pool.slots[slot].composedBy p then
    (Reply.bare .ok, s.setPool (s.pool.after (s.pool.slots.set slot .free)))
  else refuse .notYourSlot s

/-- ABANDON. -/
def execAbandon (h : Head) (slot : SlotIx) (s : State) : Host.Outcome State Fault Refusal :=
  .next (s.request h Code.abandon (whenOpen h.port fun _ => abandonAction h.port slot))

end Sys2Proof.Machine
end

