-- ==== Sys2Proof/Machine/Submission.lean ====
section
/-! DEFINITION. Submission and delivery: matching, the destination set, the full policies, acceptance, board updates and the pulls
they answer (R20 to R60, R86 to R90, R106). -/

namespace Sys2Proof.Machine

/-! ### Matching (R23 to R28) -/

/-- The tag test: equal wherever the mask holds a 1 (R23). -/
def Rule.tagTest (r : Rule) (tag : Half) : Bool := (tag &&& r.mask) = (r.tag &&& r.mask)

/-- Whether a rule governs a submission of this tag by this author, were it the first to (R24, R25). -/
def Rule.applies (r : Rule) (tag : Half) (author : Port) : Bool := r.valid && r.tagTest tag && r.source[author]

/-- The governing rule: the lowest-indexed valid rule whose two tests pass (R25). -/
def Table.govern (t : Table) (tag : Half) (author : Port) : Option Rule :=
  t.rules.toList.find? fun r => r.applies tag author

/-- The destination set of a submission: the rule's, without the author when echo is no (R27). -/
def Rule.destinations (r : Rule) (author : Port) : PortSet :=
  Vector.ofFn fun p : Port => r.dest[p] && (r.echo || decide (p ≠ author))

/-- The ports of a set whose session is OPEN (R46). -/
def State.filterOpen (s : State) (d : PortSet) : PortSet := Vector.ofFn fun p : Port => d[p] && s.isOpen p

/-- The number of destinations removed for not being OPEN (R46, R47). -/
def State.undeliveredPorts (s : State) (d : PortSet) : Nat :=
  (List.finRange 4).countP fun p => d[p] && !s.isOpen p

/-- The route tag: the rewrite value where the rule has one (R28). -/
def Rule.routeTag (r : Rule) (tag : Half) : Half := r.rewrite.getD tag

/-! ### Delivery at one destination (R49 to R53) -/

/-- Whether a port's occupancy equals its depth limit (R49). -/
def State.isFull (s : State) (p : Port) : Bool :=
  match s.sessions[p].phase with
  | .opened c => s.queues[p].occupancy = c.depth
  | _ => false

/-- What a delivery does at one destination. -/
structure Delivery where
  queue     : Queue
  delivered : Bool
  evicted   : Option SlotIx
  lost      : Bool
  deriving DecidableEq, Repr

/-- The new entry appended at the tail of its lane (R49). -/
def Queue.append (q : Queue) (e : Entry) : Queue := q.setLane e.lane (q.lane e.lane ++ [e])

/-- The entry DROP_OLDEST evicts and the queue without it: the head of the rule's lane, or of the other lane when
that one is empty (R52); none with both lanes empty (R53). -/
def Queue.evict (q : Queue) (l : Lane) : Option (Entry × Queue) :=
  match q.lane l with
  | e :: es => some (e, q.setLane l es)
  | [] =>
    match q.lane l.other with
    | e :: es => some (e, q.setLane l.other es)
    | [] => none

/-- The destination skipped: an overflow counted, nothing delivered (R51, R53). -/
def Queue.skip (q : Queue) : Delivery where
  queue := { q with overflow := satAdd q.overflow 1 }
  delivered := false
  evicted := none
  lost := true

/-- A delivery at one destination under the rule's full policy (R49, R51 to R53). A REFUSE submission reaches
here only with no full destination (R50). -/
def Queue.deliver (q : Queue) (full : Bool) (policy : FullPolicy) (e : Entry) : Delivery :=
  if full then
    match policy with
    | .refuse => q.skip
    | .dropNew => q.skip
    | .dropOldest =>
      match q.evict e.lane with
      | some (old, q') =>
        { queue := { q' with overflow := satAdd q'.overflow 1 }.append e
          delivered := true
          evicted := some old.slot
          lost := true }
      | none => q.skip
  else { queue := q.append e, delivered := true, evicted := none, lost := false }

/-- The delivery at each port of the filtered destination set; a port outside it is untouched. -/
def State.deliveries (s : State) (d : PortSet) (policy : FullPolicy) (e : Entry) : PerPort Delivery :=
  Vector.ofFn fun p : Port =>
    if d[p] then s.queues[p].deliver (s.isFull p) policy e
    else { queue := s.queues[p], delivered := false, evicted := none, lost := false }

/-! ### Acceptance (R42, R47, R55, R56) -/

/-- The sequence counter after a sequence is given: exhausted after 2^48 − 1 (R42). -/
def SequenceCounter.after (n : Seq) : SequenceCounter :=
  if n = BitVec.allOnes 48 then .exhausted else .next (n + 1#48)

/-- A submission as it reaches acceptance. -/
structure Posting where
  author   : Port
  slot     : SlotIx
  tag      : Half
  length   : Fin 65
  rule     : Rule
  sequence : Seq
  deriving DecidableEq, Repr

/-- The message an accepted posting becomes, with `n` references (R12, R55). -/
def Posting.message (x : Posting) (payload : Payload) (stamp : Stamp) (kind : Kind) (n : Nat) : Message where
  payload := payload
  length := x.length
  tag := x.tag
  routeTag := x.rule.routeTag x.tag
  author := x.author
  sequence := x.sequence
  stamp := stamp
  kind := kind
  refs := n

/-- The submitted slot LIVE with `n` references, or freed at once with none (R12). -/
def Posting.slotAfter (x : Posting) (payload : Payload) (stamp : Stamp) (kind : Kind) (n : Nat) : Slot :=
  if n = 0 then .free else .live (x.message payload stamp kind n)

/-- The counters an acceptance moves: the sequence counter and the undelivered counter (R42, R47). -/
def State.countAcceptance (s : State) (x : Posting) : State :=
  { s with
    sequence := SequenceCounter.after x.sequence
    undelivered := satAdd s.undelivered (s.undeliveredPorts (x.rule.destinations x.author)) }

/-- The content of an accepted SUBMIT's response (R55, spec/10 section 10.6). -/
def submitContent (sequence : Seq) (cls : Byte) (delivered : PortSet) (board : Byte) : List Byte :=
  sequenceBytes sequence ++ [cls, portSetByte delivered, board]

/-! ### QUEUED submissions -/

/-- OVERFLOW latched at every port that lost a message at this delivery (R51 to R53, R80). -/
def State.latchOverflow (s : State) (ds : PerPort Delivery) : State :=
  { s with
    attention := Vector.ofFn fun p : Port =>
      if ds[p].lost then { s.attention[p] with latched := { s.attention[p].latched with overflow := true } }
      else s.attention[p] }

/-- The delivered set of a QUEUED submission (R49). -/
def deliveredSet (ds : PerPort Delivery) : PortSet := ds.map fun d => d.delivered

/-- The slots whose entries were evicted, one reference each (R52). -/
def evictedSlots (ds : PerPort Delivery) : List SlotIx := ds.toList.filterMap fun d => d.evicted

/-- All four queues replaced at once. -/
def State.setQueues (s : State) (qs : PerPort Queue) : State := { s with queues := qs }

/-- Acceptance of a QUEUED submission with its deliveries, in one event (R49 to R53, R55, R57). -/
def State.acceptQueued (s : State) (x : Posting) (payload : Payload) (ds : PerPort Delivery) : State :=
  let n := portCount (deliveredSet ds)
  let slots := dropAll (s.pool.slots.set x.slot (x.slotAfter payload s.timeBase .queued n)) (evictedSlots ds)
  (((s.countAcceptance x).setPool (s.pool.after slots)).latchOverflow ds).setQueues (ds.map fun d => d.queue)

/-- The ports of the filtered destination set that are full (R50). -/
def State.fullPorts (s : State) (d : PortSet) : PortSet := Vector.ofFn fun p : Port => d[p] && s.isFull p

/-- A QUEUED submission from stage 5 on (R50, R55). -/
def submitQueued (x : Posting) (payload : Payload) (lane : Lane) (policy : FullPolicy) : Action := fun s =>
  let d := s.filterOpen (x.rule.destinations x.author)
  let full := s.fullPorts d
  if policy = .refuse ∧ portCount full ≠ 0 then (⟨.queueFull, [portSetByte full]⟩, s)
  else
    let ds := s.deliveries d policy { slot := x.slot, sequence := x.sequence, lane := lane, redelivery := 0 }
    (⟨.ok, submitContent x.sequence 0#8 (deliveredSet ds) 0xFF#8⟩, s.acceptQueued x payload ds)

/-! ### BOARD submissions (R58, R88 to R90, R106) -/

/-- Whether the port has a PENDING pull on the board (R89, R106). -/
def State.waitsFor (s : State) (p : Port) (b : BoardIx) : Bool :=
  s.pulls.any fun e => decide (e.requester = p) && e.waitsOn b

/-- A board after an update: new value, and at each marked port its mark set, its overwrite count raised when
the mark was already set (R88, R89). -/
def Board.updated (bd : Board) (slot : SlotIx) (sequence : Seq) (marked : PortSet) : Board where
  held := some slot
  lastSequence := sequence
  unread := Vector.ofFn fun p : Port => bd.unread[p] || marked[p]
  overwrites := Vector.ofFn fun p : Port =>
    if marked[p] && bd.unread[p] then satByte bd.overwrites[p] else bd.overwrites[p]

/-- The pull list after an update: every PENDING entry on the board SATISFIED with its sequence (R106). -/
def satisfyPulls (pulls : List Pull) (b : BoardIx) (sequence : Seq) : List Pull :=
  pulls.map fun e => if e.waitsOn b then e.ended (.satisfied sequence) else e

/-- Acceptance of a BOARD submission with the board's update and the pulls it answers (R55, R58, R88 to R90). -/
def State.acceptBoard (s : State) (x : Posting) (payload : Payload) (b : BoardIx) (readers : PortSet) : State :=
  let bd := s.boards[b]
  let marked : PortSet := Vector.ofFn fun p : Port => readers[p] || s.waitsFor p b
  let slots :=
    dropAll (s.pool.slots.set x.slot (x.slotAfter payload s.timeBase .boarded 1)) bd.held.toList
  { (s.countAcceptance x).setPool (s.pool.after slots) with
    boards := s.boards.set b (bd.updated x.slot x.sequence marked)
    pulls := satisfyPulls s.pulls b x.sequence }

/-- A BOARD submission from stage 4 on: never refused (R30, R40, R58). -/
def submitBoard (x : Posting) (payload : Payload) (b : BoardIx) : Action := fun s =>
  let readers := s.filterOpen (x.rule.destinations x.author)
  (⟨.ok, submitContent x.sequence 1#8 readers (boardByte b)⟩, s.acceptBoard x payload b readers)

/-! ### SUBMIT (R39, R40) -/

/-- Stages 4 to 6 for the governing rule. -/
def submitRouted (x : Posting) (payload : Payload) : Action :=
  match x.rule.cls with
  | .queued lane policy => submitQueued x payload lane policy
  | .board b => submitBoard x payload b

/-- SUBMIT taken by the Routing Unit: ownership, exhaustion, route, then delivery (R40). -/
def submitAction (p : Port) (slot : SlotIx) (tag : Half) (length : Fin 65) : Action := fun s =>
  match s.pool.slots[slot] with
  | .composing owner payload =>
    if owner = p then
      match s.sequence with
      | .exhausted => refuse .sequenceExhausted s
      | .next n =>
        match s.table.govern tag p with
        | none => refuse .noRoute s
        | some r =>
          submitRouted
            { author := p, slot := slot, tag := tag, length := length, rule := r, sequence := n } payload s
    else refuse .notYourSlot s
  | .free => refuse .notYourSlot s
  | .live _ => refuse .notYourSlot s

/-- SUBMIT. -/
def execSubmit (h : Head) (slot : SlotIx) (tag : Half) (length : Byte) (s : State) :
    Host.Outcome State Fault Refusal :=
  .next
    (s.request h Code.submit
      (whenOpen h.port fun _ =>
        withArgument (indexOf 65 length) fun len => submitAction h.port slot tag len))

end Sys2Proof.Machine
end

