-- ==== Sys2Proof/Machine/Time.lean ====
section
/-! DEFINITION. Time and the reset pin: the microsecond advance, the tick, and RESET_N (R152, R154 to R159, R173, R174). -/

namespace Sys2Proof.Machine

/-! ### The tick examines every timer (R156) -/

def HandEntry.atTick (x : HandEntry) (now : Stamp) : HandEntry := { x with lease := x.lease.atTick now }

def Queue.atTick (q : Queue) (now : Stamp) : Queue :=
  { q with hand := q.hand.map fun o => o.map fun x => x.atTick now }

def Pull.atTick (e : Pull) (now : Stamp) : Pull :=
  match e.state with
  | .waiting t => { e with state := .waiting (t.atTick now) }
  | .done _ => e

def Conn.atTick (c : Conn) (now : Stamp) : Conn := { c with silence := c.silence.map fun t => t.atTick now }

def Session.atTick (x : Session) (now : Stamp) : Session :=
  { x with phase := x.phase.mapConn fun c => c.atTick now }

def Claim.atTick (c : Claim) (now : Stamp) : Claim := { c with timer := c.timer.atTick now }

/-- At a tick every timer whose duration has elapsed is due from then on (R156, R158). Nothing else changes. -/
def State.examineTimers (s : State) : State :=
  { s with
    queues := s.queues.map fun q => q.atTick s.timeBase
    pulls := s.pulls.map fun e => e.atTick s.timeBase
    sessions := s.sessions.map fun x => x.atTick s.timeBase
    claim := s.claim.map fun c => c.atTick s.timeBase }

/-- One microsecond: the time base advances, wrapping, and every 1000th since the release of RESET_N is the
moment of a tick (R154, R155). -/
def State.advance (s : State) : State :=
  let s' := { s with timeBase := s.timeBase + 1#32, tickPhase := s.tickPhase + 1 }
  if s'.tickPhase = 0 then s'.examineTimers else s'

/-- TIME_BASE_ADVANCE: nothing while RESET_N is low (R154). -/
def execTimeBaseAdvance (s : State) : Host.Outcome State Fault Refusal :=
  .next (if !s.resetN then s else s.advance)

/-- TICK changes no state itself (R155). The moment of the tick is in TIME_BASE_ADVANCE (log entry 7). -/
def execTick (s : State) : Host.Outcome State Fault Refusal := .next s

/-! ### RESET_N (R152, R173, R174) -/

/-- The state after the release of RESET_N; the queue of commands and the model's own pulse count stand. -/
def State.pinReset (s : State) : State := { State.reset with pending := s.pending, pulses := s.pulses }

/-- RESET_N driven low: transactions are ignored from now on, every line is released, and the time base stands
at 0 (R154, R173, R180). The rest is not observable until the release replaces it (log entry 8). -/
def execResetNAssert (s : State) : Host.Outcome State Fault Refusal :=
  .next
    { s with
      resetN := false
      timeBase := 0#32
      tickPhase := 0
      attention := s.attention.map fun a => { a with line := false } }

/-- RESET_N released: every block in its pin-reset state (R152 and the reset rules of each block). -/
def execResetNRelease (s : State) : Host.Outcome State Fault Refusal := .next s.pinReset

/-- A low pulse shorter than 10 µs: a full pin reset or nothing at all, which is not specified (R174; log entry
6). -/
def execResetNShortPulse (s : State) : Host.Outcome State Fault Refusal :=
  .next
    (let s' := { s with pulses := s.pulses + 1 }
     if Config.shortPulseResets s.pulses then s'.pinReset else s')

end Sys2Proof.Machine
end

