-- ==== Sys2Proof/Machine/Dispatch.lean ====
section
/-! DEFINITION. The dispatch: one arm a command, each one direct call of its meaning. -/

namespace Sys2Proof.Machine

-- The effect of a command on everything but the queue.
def exec (i : Instr) (s : State) : Host.Outcome State Fault Refusal :=
  match i with
  | .poll h => Sys2Proof.Machine.execPoll h s
  | .openSession h args => Sys2Proof.Machine.execOpen h args s
  | .close h => Sys2Proof.Machine.execClose h s
  | .unfence h => Sys2Proof.Machine.execUnfence h s
  | .resetPort h => Sys2Proof.Machine.execResetPort h s
  | .reserve h => Sys2Proof.Machine.execReserve h s
  | .write h slot offset data => Sys2Proof.Machine.execWrite h slot offset data s
  | .abandon h slot => Sys2Proof.Machine.execAbandon h slot s
  | .submit h slot tag length => Sys2Proof.Machine.execSubmit h slot tag length s
  | .take h => Sys2Proof.Machine.execTake h s
  | .peek h => Sys2Proof.Machine.execPeek h s
  | .release h handle sequence => Sys2Proof.Machine.execRelease h handle sequence s
  | .giveBack h handle sequence => Sys2Proof.Machine.execGiveBack h handle sequence s
  | .renew h handle sequence => Sys2Proof.Machine.execRenew h handle sequence s
  | .readBoard h board => Sys2Proof.Machine.execReadBoard h board s
  | .pull h board => Sys2Proof.Machine.execPull h board s
  | .cancelPull h board => Sys2Proof.Machine.execCancelPull h board s
  | .collect h board => Sys2Proof.Machine.execCollect h board s
  | .claim h => Sys2Proof.Machine.execClaim h s
  | .editRule h index rule => Sys2Proof.Machine.execEditRule h index rule s
  | .clearRule h index => Sys2Proof.Machine.execClearRule h index s
  | .editBoard h index board => Sys2Proof.Machine.execEditBoard h index board s
  | .readRule h index selector => Sys2Proof.Machine.execReadRule h index selector s
  | .readBoarddef h index selector => Sys2Proof.Machine.execReadBoarddef h index selector s
  | .commit h => Sys2Proof.Machine.execCommit h s
  | .dropClaim h => Sys2Proof.Machine.execDropClaim h s
  | .status h => Sys2Proof.Machine.execStatus h s
  | .ackReasons h reasons => Sys2Proof.Machine.execAckReasons h reasons s
  | .setAttention h mask => Sys2Proof.Machine.execSetAttention h mask s
  | .stats h clearPort clearHub => Sys2Proof.Machine.execStats h clearPort clearHub s
  | .linkTruncated port bytes => Sys2Proof.Machine.execLinkTruncated port bytes s
  | .linkCrc port bytes => Sys2Proof.Machine.execLinkCrc port bytes s
  | .badCommand h code args => Sys2Proof.Machine.execBadCommand h code args s
  | .transactionTooSoon port => Sys2Proof.Machine.execTransactionTooSoon port s
  | .resetNAssert => Sys2Proof.Machine.execResetNAssert s
  | .resetNRelease => Sys2Proof.Machine.execResetNRelease s
  | .resetNShortPulse => Sys2Proof.Machine.execResetNShortPulse s
  | .tick => Sys2Proof.Machine.execTick s
  | .leaseExpiry port handle => Sys2Proof.Machine.execLeaseExpiry port handle s
  | .pullExpiry requester board => Sys2Proof.Machine.execPullExpiry requester board s
  | .claimLapse => Sys2Proof.Machine.execClaimLapse s
  | .silenceExpiry port => Sys2Proof.Machine.execSilenceExpiry port s
  | .timeBaseAdvance => Sys2Proof.Machine.execTimeBaseAdvance s

end Sys2Proof.Machine
end

