-- ==== Sys2Proof/Safety.lean ====
section
/-! DEFINITION. What the manual promises of every moment: the invariants its rules state, as predicates of a state. -/

namespace Sys2Proof.Safety

open Sys2Proof.Machine

/-- R2: the free list holds each FREE slot exactly once and no other slot. -/
def freeListExact (s : State) : Prop :=
  s.pool.freeList.Nodup ∧ ∀ i : SlotIx, i ∈ s.pool.freeList ↔ s.pool.slots[i].isFree = true

/-- R11, first part: every COMPOSING slot is owned by a port whose session is OPEN. -/
def composersOpen (s : State) : Prop :=
  ∀ (i : SlotIx) (p : Port), s.pool.slots[i].composedBy p = true → s.isOpen p = true

/-- R11, second part: no OPEN port owns more COMPOSING slots than its composing limit. -/
def composingBounded (s : State) : Prop :=
  ∀ (p : Port) (c : Conn), s.sessions[p].phase = .opened c → s.pool.composingCount p ≤ c.composing

/-- All entries of a port, in its lanes and in its hand. -/
def entriesOf (q : Queue) : List Entry := q.urgent ++ q.normal ++ q.handEntries.map fun x => x.entry

/-- How many entries of a port name a slot. -/
def entriesNaming (q : Queue) (i : SlotIx) : Nat := (entriesOf q).countP fun e => decide (e.slot = i)

/-- How many queue and hand entries of the hub name a slot. -/
def holdersOf (s : State) (i : SlotIx) : Nat := ((List.finRange 4).map fun p : Port => entriesNaming s.queues[p] i).sum

/-- How many boards hold a slot. -/
def boardsHolding (s : State) (i : SlotIx) : Nat := s.boards.toList.countP fun b => decide (b.held = some i)

/-- R13 for one slot: a LIVE slot is QUEUED with as many references as entries name it, one a port at most, and
no board holding it, or BOARDED with one reference, held by one board and named by no entry; a slot that is not
LIVE is named by nothing. -/
def slotHeld (s : State) (i : SlotIx) : Prop :=
  match s.pool.slots[i] with
  | .live m =>
    match m.kind with
    | .queued =>
      1 ≤ m.refs ∧ m.refs = holdersOf s i ∧ (∀ p : Port, entriesNaming s.queues[p] i ≤ 1) ∧ boardsHolding s i = 0
    | .boarded => m.refs = 1 ∧ boardsHolding s i = 1 ∧ holdersOf s i = 0
  | _ => boardsHolding s i = 0 ∧ holdersOf s i = 0

/-- R13, of every slot. -/
def referencesExact (s : State) : Prop := ∀ i : SlotIx, slotHeld s i

/-- Whether a sequence was given before the one the counter gives next (R42, R44). -/
def givenBefore (n : Seq) : SequenceCounter → Prop
  | .next k => 0 < n.toNat ∧ n.toNat < k.toNat
  | .exhausted => 0 < n.toNat

/-- The counter gives no sequence 0 (R42). -/
def counterLegal : SequenceCounter → Prop
  | .next k => 0 < k.toNat
  | .exhausted => True

/-- R44: the sequences of LIVE slots were given before the next one, and no two LIVE slots share one. -/
def sequencesUnique (s : State) : Prop :=
  counterLegal s.sequence ∧
    (∀ (i : SlotIx) (m : Message), s.pool.slots[i] = .live m → givenBefore m.sequence s.sequence) ∧
    ∀ (i j : SlotIx) (m m' : Message), s.pool.slots[i] = .live m → s.pool.slots[j] = .live m' →
      m.sequence = m'.sequence → i = j

/-- A lane stands in strictly increasing order of sequence (R62). -/
def ascending (es : List Entry) : Prop := es.Pairwise fun a b => a.sequence < b.sequence

/-- R62 for one port: both lanes ascend, each entry stands in the lane it names, and the port never holds two
entries with the same sequence. -/
def queueOrdered (q : Queue) : Prop :=
  ascending q.urgent ∧ ascending q.normal ∧ (∀ e ∈ q.urgent, e.lane = .urgent) ∧
    (∀ e ∈ q.normal, e.lane = .normal) ∧ (entriesOf q).Pairwise fun a b => a.sequence ≠ b.sequence

/-- R62 with what keeps it: every entry's sequence was given before the next one (R49). -/
def lanesOrdered (s : State) : Prop :=
  counterLegal s.sequence ∧
    ∀ p : Port, queueOrdered s.queues[p] ∧ ∀ e ∈ entriesOf s.queues[p], givenBefore e.sequence s.sequence

/-- R63: the occupancy of a port in session does not exceed its depth limit. -/
def occupancyBounded (s : State) : Prop :=
  ∀ (p : Port) (c : Conn), s.sessions[p].phase.conn? = some c → s.queues[p].occupancy ≤ c.depth

/-- R87 for one board, given whether its definition is enabled. -/
def boardConsistent (enabled : Bool) (b : Board) : Prop :=
  (b.held = none ↔ b.lastSequence = 0#48) ∧
    (b.held = none → ∀ p : Port, b.unread[p] = false) ∧
    (∀ p : Port, b.unread[p] = false → b.overwrites[p] = 0#8) ∧
    (enabled = false → b.held = none)

/-- R87, of every board. -/
def boardsConsistent (s : State) : Prop :=
  ∀ b : BoardIx, boardConsistent s.table.boards[b].enabled s.boards[b]

/-- R101, the bounds: at most 12 entries, 4 a requester, one a requester and board. -/
def pullsBounded (s : State) : Prop :=
  s.pulls.length ≤ 12 ∧ (∀ p : Port, (s.pulls.countP fun e => decide (e.requester = p)) ≤ 4) ∧
    s.pulls.Pairwise fun a b => ¬(a.requester = b.requester ∧ a.board = b.board)

/-- R101, of a PENDING entry: its board is enabled and its supplier is an OPEN port other than the requester. -/
def pullsSupplied (s : State) : Prop :=
  ∀ e ∈ s.pulls, e.isWaiting = true →
    s.table.boards[e.board].enabled = true ∧
      ∃ q : Port, s.table.boards[e.board].supplier = some q ∧ s.isOpen q = true ∧ q ≠ e.requester

/-- R102: a board is in a port's wanted set exactly when the port supplies it and a PENDING pull names it. -/
def wantedExact (s : State) : Prop :=
  ∀ (p : Port) (b : BoardIx), s.wanted[p][b] = true ↔
    s.table.boards[b].supplier = some p ∧ ∃ e ∈ s.pulls, e.isWaiting = true ∧ e.board = b

/-- R118: the holder of the claim is a port whose session is OPEN. -/
def holderOpen (s : State) : Prop := ∀ c : Claim, s.claim = some c → s.isOpen c.holder = true

/-- R129: every valid rule has a non-empty source set, and every valid BOARD rule names an enabled board. -/
def tableLawful (t : Table) : Prop :=
  ∀ i : RuleIx, t.rules[i].valid = true →
    (∃ p : Port, t.rules[i].source[p] = true) ∧
      ∀ b : BoardIx, t.rules[i].cls = .board b → t.boards[b].enabled = true

/-- R151: what a port that is not OPEN does not hold, and who may have hand entries; a CLOSING hand is never
empty (R147). -/
def closedHoldsNothing (s : State) : Prop :=
  (∀ p : Port, s.isOpen p = false →
    s.queues[p].urgent = [] ∧ s.queues[p].normal = [] ∧
      (∀ i : SlotIx, s.pool.slots[i].composedBy p = false) ∧
      (∀ b : BoardIx, s.boards[b].unread[p] = false) ∧
      (∀ e ∈ s.pulls, e.requester ≠ p) ∧
      ∀ c : Claim, s.claim = some c → c.holder ≠ p) ∧
    (∀ p : Port, s.sessions[p].phase.conn? = none → s.queues[p].handCount = 0) ∧
    ∀ (p : Port) (c : Conn), s.sessions[p].phase = .closing c → s.queues[p].handCount ≠ 0

/-- R179: the FENCED position of every enable mask is 0, and no bit above QUEUE_NORMAL is set. -/
def masksLegal (s : State) : Prop := ∀ p : Port, s.attention[p].mask &&& 0xFC01#16 = 0#16

/-- R177: every latched flag is clear at a CLOSED or FENCED port, and only DISCARDED is ever latched at a CLOSING
one. -/
def latchesLegal (s : State) : Prop :=
  ∀ p : Port,
    (s.sessions[p].phase.conn? = none → s.attention[p].latched = .clear) ∧
      ∀ c : Conn, s.sessions[p].phase = .closing c →
        s.attention[p].latched = { Latched.clear with discarded := s.attention[p].latched.discarded }

/-- R180: the line is asserted exactly when RESET_N is high and the port is FENCED or some pending reason is
enabled. -/
def linesExact (s : State) : Prop :=
  ∀ p : Port, s.attention[p].line = true ↔
    s.resetN = true ∧
      (s.sessions[p].phase.state = .fenced ∨
        ∃ r : Reason, s.pendingReason p r = true ∧ s.attention[p].mask.getLsbD r.bit = true)

/-- The parameters of a session in force are in range (R135, R137). -/
def paramsLegal (s : State) : Prop :=
  ∀ (p : Port) (c : Conn), s.sessions[p].phase.conn? = some c →
    c.lease ≠ 0#16 ∧ 1 ≤ c.depth ∧ c.depth ≤ 128 ∧ 1 ≤ c.composing ∧ c.composing ≤ 16 ∧ 1 ≤ c.redelivery ∧
      c.redelivery ≤ 7 ∧ ∀ t : Timer, c.silence = some t → 10 ≤ t.duration.toNat

/-- R74: an entry in a lane has a redelivery count below its port's limit, and so has one in a hand. -/
def redeliveryBelowLimit (s : State) : Prop :=
  ∀ (p : Port) (c : Conn), s.sessions[p].phase.conn? = some c →
    ∀ e ∈ entriesOf s.queues[p], e.redelivery < c.redelivery

/-- While RESET_N is low the time base stands at 0 and every line is released (R154, R180). -/
def heldInReset (s : State) : Prop :=
  s.resetN = false → s.timeBase = 0#32 ∧ ∀ p : Port, s.attention[p].line = false

/-- Every promise of the manual that speaks of the state at one moment. -/
def Lawful (s : State) : Prop :=
  freeListExact s ∧ composersOpen s ∧ composingBounded s ∧ referencesExact s ∧ sequencesUnique s ∧ lanesOrdered s ∧
    occupancyBounded s ∧ boardsConsistent s ∧ pullsBounded s ∧ pullsSupplied s ∧ wantedExact s ∧ holderOpen s ∧
    tableLawful s.table ∧ closedHoldsNothing s ∧ masksLegal s ∧ latchesLegal s ∧ linesExact s ∧ paramsLegal s ∧
    redeliveryBelowLimit s ∧ heldInReset s

end Sys2Proof.Safety
end

