-- ==== Sys2Proof/WellFormed.lean ====
section
/-! DEFINITION. Which command terms are commands: the checks a term must pass to stand for an event on the link, and a
transaction to stand for one on its pins. -/

namespace Sys2Proof

/-- The data of a WRITE is what remains of 66 argument bytes: 0 to 64 (R8, R167). -/
def writeDataFits (data : List Byte) : Bool := data.length ≤ 64

/-- A frame refused at the first check has an unknown code or an argument length its command does not take, and
at most 72 argument bytes (R163, R167). -/
def refusedAtFirstCheck (code : Byte) (args : List Byte) : Bool :=
  !lengthAccepted code args.length && args.length ≤ 72

/-- Whether a command term is a command. Every other term is one whatever its operands, since the operands are
the fields a frame can carry. -/
def Instr.wellFormed : Instr → Bool
  | .write _ _ _ data => writeDataFits data
  | .badCommand _ code args => refusedAtFirstCheck code args
  | .linkTruncated _ bytes => judge bytes = .truncated
  | .linkCrc _ bytes => judge bytes = .badCrc
  | .poll _ | .openSession _ _ | .close _ | .unfence _ | .resetPort _ | .reserve _ | .abandon _ _
  | .submit _ _ _ _ | .take _ | .peek _ | .release _ _ _ | .giveBack _ _ _ | .renew _ _ _
  | .readBoard _ _ | .pull _ _ | .cancelPull _ _ | .collect _ _ | .claim _ | .editRule _ _ _
  | .clearRule _ _ | .editBoard _ _ _ | .readRule _ _ _ | .readBoarddef _ _ _ | .commit _ | .dropClaim _
  | .status _ | .ackReasons _ _ | .setAttention _ _ | .stats _ _ _ | .transactionTooSoon _
  | .resetNAssert | .resetNRelease | .resetNShortPulse | .tick | .leaseExpiry _ _ | .pullExpiry _ _
  | .claimLapse | .silenceExpiry _ | .timeBaseAdvance => true

/-- Whether edges can follow each other: the clock idles low, so its edges rise and fall in turn (R161), and RESET_N
goes low, is released or pulses from the level it has. -/
def edgesFit (clockHigh resetLow : Bool) : List LinkEdge → Bool
  | [] => !clockHigh
  | .clockRises _ :: es => !clockHigh && edgesFit true resetLow es
  | .clockFalls :: es => clockHigh && edgesFit false resetLow es
  | .resetFalls :: es => !resetLow && edgesFit clockHigh true es
  | .resetReleased :: es => resetLow && edgesFit clockHigh false es
  | .shortPulse _ :: es => !resetLow && edgesFit clockHigh resetLow es

/-- Whether a transaction can be clocked in SPI mode 0 (R161): the clock is low again as chip select goes high. -/
def Transaction.wellFormed (t : Transaction) : Bool := edgesFit false t.sinceRelease.isNone t.edges

end Sys2Proof
end

