-- ==== Sys2Proof/Certificates/Slice0/Obligations.lean ====
section
/-! DEFINITION. The statements about the LQ4: what each command does, by the rules of spec/, and what every step keeps. -/

namespace Sys2Proof.Statements

open Sys2Proof.Machine Sys2Proof.Safety

/-! ### Codes and views written out from the spec, so that what a statement says does not rest on the model's own -/

/-- The `k` low bytes of a number, least significant first (R175). -/
def le (k n : Nat) : List Byte := (List.range k).map fun i => BitVec.ofNat 8 (n / 256 ^ i)

/-- The number whose bit `k` is the `k`-th of some flags (R175). -/
def bitsValue (bs : List Bool) : Nat := (bs.zipIdx.map fun x => if x.1 then 2 ^ x.2 else 0).sum

/-- A set of ports: bit 0 P0, bit 1 P1, bit 2 P2, bit 3 P3 (R175). -/
def portsByte (f : Port → Bool) : Byte :=
  BitVec.ofNat 8 ((if f 0 then 1 else 0) + (if f 1 then 2 else 0) + (if f 2 then 4 else 0) + (if f 3 then 8 else 0))

/-- A full policy's code (R175). -/
def policyCode (f : FullPolicy) : Byte :=
  match f with
  | .refuse => 0#8
  | .dropNew => 1#8
  | .dropOldest => 2#8

/-- One shift of the CRC register (R164). -/
def crcShifted (r : Nat) : Nat := if 32768 ≤ r then (2 * r % 65536) ^^^ 0x1021 else 2 * r

/-- The CRC of a run of bytes: the register starts at FFFFh, takes each byte in its upper eight bits, and is shifted
eight times for each (R164). -/
def crcOf (bytes : List Byte) : Nat :=
  bytes.foldl (fun r b => Nat.iterate crcShifted 8 (r ^^^ (256 * b.toNat))) 0xFFFF

/-- The session state of a session record (R135). -/
def stateOf (ph : Phase) : SessionState :=
  match ph with
  | .closed => .closed
  | .opened _ => .opened
  | .closing _ => .closing
  | .fenced => .fenced

/-- A session state's code (R170, R175). -/
def stateCode (st : SessionState) : Nat :=
  match st with
  | .closed => 0
  | .opened => 1
  | .closing => 2
  | .fenced => 3

/-- The outcome table (spec/10 section 10.6). -/
def outcomeCode (o : OutcomeCode) : Nat :=
  match o with
  | .ok => 0x00 | .empty => 0x01 | .nothingHeld => 0x02
  | .badCommand => 0x10 | .badLength => 0x11 | .badArgument => 0x12 | .notOpen => 0x13 | .fenced => 0x14
  | .closing => 0x15 | .alreadyOpen => 0x16 | .notFenced => 0x17 | .linkCrc => 0x18 | .linkTruncated => 0x19
  | .poolEmpty => 0x20 | .composeLimit => 0x21 | .notYourSlot => 0x22 | .noRoute => 0x23 | .queueFull => 0x24
  | .sequenceExhausted => 0x25 | .handFull => 0x30 | .staleHandle => 0x31
  | .boardDisabled => 0x40 | .boardEmpty => 0x41 | .pullListFull => 0x42 | .pullLimit => 0x43
  | .alreadyPending => 0x44 | .noSupplier => 0x45 | .supplierAbsent => 0x46 | .noSuchPull => 0x47
  | .selfSupplier => 0x48 | .uncollected => 0x49
  | .claimHeld => 0x50 | .notHolder => 0x51 | .tableInvalid => 0x52

/-- A response frame, field by field: command echo, session state in bits 7 to 4 and request number in bits 3 to 0,
outcome code, epoch, content length, content and CRC (R170). -/
def responseBytes (r : Response) : List Byte :=
  let body := [r.command, BitVec.ofNat 8 (16 * stateCode r.session + r.number.toNat),
    BitVec.ofNat 8 (outcomeCode r.outcome), r.epoch, BitVec.ofNat 8 r.content.length] ++ r.content
  body ++ le 2 (crcOf body)

/-- Whether a port's session is OPEN. -/
def openAt (s : State) (p : Port) : Bool :=
  match s.sessions[p].phase with
  | .opened _ => true
  | _ => false

/-- The parameters of a session that is OPEN or CLOSING. -/
def connOf (ph : Phase) : Option Conn :=
  match ph with
  | .opened c => some c
  | .closing c => some c
  | .closed => none
  | .fenced => none

/-- The entries of a hand in handle order (R64). -/
def handOf (q : Queue) : List HandEntry := (List.finRange 4).filterMap fun k => q.hand[k]

/-- How many handle positions are occupied (R64). -/
def handSize (q : Queue) : Nat := (List.finRange 4).countP fun k => q.hand[k].isSome

/-- A port's occupancy: its entries in both lanes and in its hand (R63). -/
def occupancyOf (q : Queue) : Nat := q.urgent.length + q.normal.length + handSize q

/-- How many COMPOSING slots a port owns (R11). -/
def composingOf (s : State) (p : Port) : Nat :=
  (List.finRange 256).countP fun i =>
    match s.pool.slots[i] with
    | .composing owner _ => decide (owner = p)
    | _ => false

/-- Whether a pull list entry is PENDING (R101). -/
def waits (e : Pull) : Bool :=
  match e.state with
  | .waiting _ => true
  | .done _ => false

/-- No latched flag set (R177). -/
def unlatched : Latched := { claimLapsed := false, discarded := false, overflow := false, tableChanged := false }

/-- A cleared rule (R22). -/
def clearedRule : Rule where
  valid := false
  tag := 0#16
  mask := 0#16
  source := Vector.replicate 4 false
  cls := .queued .normal .refuse
  dest := Vector.replicate 4 false
  echo := false
  rewrite := none

/-! ### What a statement compares -/

/-- The state of every block but the link records, the sessions, the wanted sets and the attention lines. A
statement says of `blocks t` what it is, and so names what changed and that nothing else did. -/
@[ext] structure Blocks where
  pending     : List Instr
  resetN      : Bool
  timeBase    : Stamp
  tickPhase   : Fin 1000
  pool        : Pool
  table       : Table
  generation  : Half
  sequence    : SequenceCounter
  undelivered : Half
  claim       : Option Claim
  queues      : PerPort Queue
  boards      : Vector Board 32
  pulls       : List Pull
  latched     : PerPort Latched
  mask        : PerPort Half
  pulses      : Nat
  deriving DecidableEq, Repr

def blocks (s : State) : Blocks where
  pending := s.pending
  resetN := s.resetN
  timeBase := s.timeBase
  tickPhase := s.tickPhase
  pool := s.pool
  table := s.table
  generation := s.generation
  sequence := s.sequence
  undelivered := s.undelivered
  claim := s.claim
  queues := s.queues
  boards := s.boards
  pulls := s.pulls
  latched := s.attention.map fun a => a.latched
  mask := s.attention.map fun a => a.mask
  pulses := s.pulses

/-- The wanted sets and the attention lines say what the rest of the state says (R102, R180). -/
def Settled (t : State) : Prop := wantedExact t ∧ linesExact t

/-- The hub runs, and the request does not repeat the number and command of the port's last executed one (R169). -/
def Fresh (s : State) (h : Head) (code : Byte) : Prop :=
  s.resetN = true ∧
    ¬(s.links[h.port].lastNumber = some h.number ∧ s.links[h.port].lastExecuted.command = code)

/-- The link records after an executed request (R170): the response replaces the held and the last executed one,
its state and epoch are the port's after the event, the number is kept; nothing else of any link record changes. -/
def Responded (s t : State) (h : Head) (code : Byte) (o : OutcomeCode) (content : List Byte)
    (number : Option (BitVec 4)) : Prop :=
  let r : Response :=
    { command := code
      session := stateOf t.sessions[h.port].phase
      number := h.number
      outcome := o
      epoch := t.sessions[h.port].epoch
      content := content }
  t.links = s.links.set h.port { s.links[h.port] with held := r, lastExecuted := r, lastNumber := number }

/-- A silence timer restarted now (R140, R157). -/
def restart (now : Stamp) (c : Conn) : Conn :=
  { c with silence := c.silence.map fun x => { start := now, duration := x.duration, due := false } }

/-- A session state whose silence deadline, where it has one, is restarted (R140). -/
def heardPhase (s : State) (p : Port) : Phase :=
  match s.sessions[p].phase with
  | .closed => .closed
  | .opened c => .opened (restart s.timeBase c)
  | .closing c => .closing (restart s.timeBase c)
  | .fenced => .fenced

/-- The sessions after an event that leaves the port in this session state; epochs and other ports stay. -/
def InPhase (s t : State) (p : Port) (ph : Phase) : Prop :=
  t.sessions = s.sessions.set p { s.sessions[p] with phase := ph }

/-- A request executed with this outcome and content, its session going on with the silence deadline restarted. -/
def Executed (s t : State) (h : Head) (code : Byte) (o : OutcomeCode) (content : List Byte) : Prop :=
  Responded s t h code o content (some h.number) ∧ InPhase s t h.port (heardPhase s h.port) ∧ Settled t

/-- A request executed with an outcome and no effect on any block. -/
def Unchanged (s t : State) (h : Head) (code : Byte) (o : OutcomeCode) (content : List Byte) : Prop :=
  Executed s t h code o content ∧ blocks t = blocks s

/-- The command completes in a next state of which `P` holds. -/
def Completes (c : Instr) (s : State) (P : State → Prop) : Prop := ∃ t : State, exec c s = .next t ∧ P t

/-- A 16-bit counter raised by `n`, saturating at 65535 (spec/00). -/
def raised (c : Half) (n : Nat) : Half :=
  if c.toNat + n < 65535 then BitVec.ofNat 16 (c.toNat + n) else 65535#16

/-- A timer set now (R156). -/
def timer (now : Stamp) (ms : Half) : Timer := { start := now, duration := ms, due := false }

/-! ### Slots -/

/-- A slot after `k` reference drops in one event (R14, R15). -/
def afterDrops (sl : Slot) (k : Nat) : Slot :=
  match sl with
  | .live m => if k = 0 then sl else if m.refs ≤ k then .free else .live { m with refs := m.refs - k }
  | .composing _ _ => sl
  | .free => sl

/-- The slots an event frees, in increasing order of index (R4). -/
def freedBy (before after : Vector Slot 256) : List SlotIx :=
  (List.finRange 256).filter fun i => decide (before[i] ≠ .free ∧ after[i] = .free)

/-- A pool after an event that leaves each slot as `f` says; what it frees joins the tail of the free list (R2, R4). -/
def poolAfter (pl : Pool) (f : SlotIx → Slot) : Pool :=
  let slots : Vector Slot 256 := Vector.ofFn f
  { pl with slots := slots, freeList := pl.freeList ++ freedBy pl.slots slots }

/-- How many of some entries name a slot. -/
def naming (es : List Entry) (i : SlotIx) : Nat := es.countP fun e => decide (e.slot = i)

/-! ### Teardown (R143, R144) -/

/-- The entries whose references a teardown drops: both lanes, and the hand where it is discarded. -/
def tornEntries (q : Queue) (discardHand : Bool) : List Entry :=
  q.urgent ++ q.normal ++ if discardHand then (handOf q).map (fun x => x.entry) else []

/-- The blocks after the teardown of a port's session, row by row as R143 and R144 give it. -/
def tornBlocks (s : State) (p : Port) (discardHand : Bool) : Blocks :=
  let q := s.queues[p]
  { blocks s with
    pool := poolAfter s.pool fun i =>
      match s.pool.slots[i] with
      | .composing owner payload => if owner = p then .free else .composing owner payload
      | sl => afterDrops sl (naming (tornEntries q discardHand) i)
    queues := s.queues.set p
      { q with
        urgent := []
        normal := []
        hand := if discardHand then Vector.replicate 4 none else q.hand
        discard := if discardHand then raised q.discard (handSize q) else q.discard }
    boards := s.boards.map fun b =>
      { b with unread := b.unread.set p false, overwrites := b.overwrites.set p 0#8 }
    pulls := (s.pulls.filter fun e => decide (e.requester ≠ p)).map fun e =>
      match e.state with
      | .waiting _ =>
        if s.table.boards[e.board].supplier = some p then { e with state := .done .supplierLost } else e
      | .done _ => e
    claim := match s.claim with
      | some c => if c.holder = p then none else some c
      | none => none
    latched := (s.attention.map fun a => a.latched).set p
      { claimLapsed := false, discarded := false, overflow := false, tableChanged := false } }

/-- The blocks after the hand of a CLOSING port is discarded and its latched reasons cleared (R148, R150). -/
def handDiscarded (s : State) (p : Port) : Blocks :=
  let q := s.queues[p]
  { blocks s with
    pool := poolAfter s.pool fun i => afterDrops s.pool.slots[i] (naming ((handOf q).map fun x => x.entry) i)
    queues := s.queues.set p
      { q with hand := Vector.replicate 4 none, discard := raised q.discard (handSize q) }
    latched := (s.attention.map fun a => a.latched).set p
      { claimLapsed := false, discarded := false, overflow := false, tableChanged := false } }

/-! ### The session table (R136) and the argument ranges -/

/-- The outcome with which the session check refuses a request, or none where the request is taken (R136). -/
def refusedIn (c : Instr) (st : SessionState) : Option OutcomeCode :=
  match c with
  | .openSession _ _ =>
    match st with
    | .closed => none
    | .opened => some .alreadyOpen
    | .closing => some .closing
    | .fenced => some .fenced
  | .unfence _ => if st = .fenced then none else some .notFenced
  | .resetPort _ | .status _ => none
  | .close _ | .release _ _ _ | .giveBack _ _ _ | .ackReasons _ _ | .setAttention _ _ =>
    match st with
    | .closed => some .notOpen
    | .opened => none
    | .closing => none
    | .fenced => some .fenced
  | .stats _ _ _ => if st = .fenced then some .fenced else none
  | .reserve _ | .write _ _ _ _ | .abandon _ _ | .submit _ _ _ _ | .take _ | .peek _ | .renew _ _ _
  | .readBoard _ _ | .pull _ _ | .cancelPull _ _ | .collect _ _ | .claim _ | .editRule _ _ _
  | .clearRule _ _ | .editBoard _ _ _ | .readRule _ _ _ | .readBoarddef _ _ _ | .commit _ | .dropClaim _ =>
    match st with
    | .closed => some .notOpen
    | .opened => none
    | .closing => some .closing
    | .fenced => some .fenced
  | _ => none

/-- The silence limit an OPEN puts in force: none for off (R137). -/
def silenceGiven (a : OpenArgs) (limit : Option Half) : Prop :=
  (a.silenceOff = 1#8 ∧ a.silence = 0#16 ∧ limit = none) ∨
    (a.silenceOff = 0#8 ∧ a.silence = 0#16 ∧ limit = some 2000#16) ∨
    (a.silenceOff = 0#8 ∧ 10 ≤ a.silence.toNat ∧ limit = some a.silence)

/-- A one-byte parameter an OPEN puts in force (R137). -/
def limitGiven (v : Byte) (default most n : Nat) : Prop :=
  (v = 0#8 ∧ n = default) ∨ (1 ≤ v.toNat ∧ v.toNat ≤ most ∧ n = v.toNat)

/-- The argument ranges: the operands refused with BAD_ARGUMENT (R8, R20, R36, R39, R69, R121, R137, R175). -/
def outOfRange : Instr → Prop
  | .openSession _ a =>
    (¬∃ l, silenceGiven a l) ∨ 128 < a.depth.toNat ∨ 16 < a.composing.toNat ∨ 7 < a.redelivery.toNat
  | .write _ _ offset data => 64 < offset.toNat + data.length
  | .submit _ _ _ length => 64 < length.toNat
  | .release _ handle _ | .giveBack _ handle _ | .renew _ handle _ => 3 < handle.toNat
  | .readBoard _ board | .pull _ board | .cancelPull _ board | .collect _ board => 31 < board.toNat
  | .editRule _ index r =>
    63 < index.toNat ∨ 1 < r.cls.toNat ∨ (r.cls = 0#8 ∧ (1 < r.lane.toNat ∨ 2 < r.policy.toNat)) ∨
      (r.cls = 1#8 ∧ 31 < r.board.toNat)
  | .clearRule _ index => 63 < index.toNat
  | .editBoard _ index b =>
    31 < index.toNat ∨ b.pullTimeout = 0#16 ∨ (3 < b.supplier.toNat ∧ b.supplier ≠ 0xFF#8)
  | .readRule _ index selector => 63 < index.toNat ∨ 1 < selector.toNat
  | .readBoarddef _ index selector => 31 < index.toNat ∨ 1 < selector.toNat
  | .ackReasons _ r | .setAttention _ r => ∃ k, 10 ≤ k ∧ k ≤ 15 ∧ r.getLsbD k = true
  | .stats _ clearPort clearHub => 1 < clearPort.toNat ∨ 1 < clearHub.toNat
  | _ => False

/-- The requests of the command table: every one but POLL (never executed) and the frames refused at the first
check. -/
def isKnownRequest : Instr → Bool
  | .poll _ => false
  | .badCommand _ _ _ => false
  | c => c.request?.isSome

/-! ### Routing and delivery -/

/-- A rule's tag test and source test pass, and the rule is valid (R23, R24, R25). -/
def passes (r : Rule) (tag : Half) (author : Port) : Prop :=
  r.valid = true ∧ (∀ k, k < 16 → r.mask.getLsbD k = true → tag.getLsbD k = r.tag.getLsbD k) ∧
    r.source[author] = true

/-- The rule is the lowest-indexed one that passes (R25). -/
def governs (t : Table) (tag : Half) (author : Port) (r : Rule) : Prop :=
  ∃ i : RuleIx, t.rules[i] = r ∧ passes r tag author ∧ ∀ j : RuleIx, j < i → ¬passes t.rules[j] tag author

/-- Whether a port is in the destination set (R27). -/
def destined (r : Rule) (author q : Port) : Bool := r.dest[q] && (r.echo || decide (q ≠ author))

/-- Whether a port is in the filtered destination set (R46). -/
def inSet (s : State) (r : Rule) (author q : Port) : Bool := destined r author q && openAt s q

/-- How many destinations were removed for not being OPEN (R46, R47). -/
def absent (s : State) (r : Rule) (author : Port) : Nat :=
  (List.finRange 4).countP fun q => destined r author q && !openAt s q

/-- Whether a port's occupancy equals its depth limit (R49). -/
def full (s : State) (q : Port) : Bool :=
  match s.sessions[q].phase with
  | .opened c => decide (occupancyOf s.queues[q] = c.depth)
  | _ => false

/-- The entry a full destination gives up under DROP_OLDEST: the head of the rule's lane, else of the other (R52). -/
def oldest (q : Queue) (l : Lane) : Option Entry :=
  match l with
  | .urgent => q.urgent.head?.or q.normal.head?
  | .normal => q.normal.head?.or q.urgent.head?

/-- A queue without the entry `oldest` names. -/
def withoutOldest (q : Queue) (l : Lane) : Queue :=
  match l with
  | .urgent => if q.urgent = [] then { q with normal := q.normal.tail } else { q with urgent := q.urgent.tail }
  | .normal => if q.normal = [] then { q with urgent := q.urgent.tail } else { q with normal := q.normal.tail }

/-- A new entry at the tail of its lane (R49). -/
def withEntry (q : Queue) (e : Entry) : Queue :=
  match e.lane with
  | .urgent => { q with urgent := q.urgent ++ [e] }
  | .normal => { q with normal := q.normal ++ [e] }

/-- A queue that counts one overflow (R80). -/
def overflowed (q : Queue) : Queue := { q with overflow := raised q.overflow 1 }

/-- Whether the submission evicts an entry at the port (R52). -/
def evicts (s : State) (r : Rule) (author q : Port) (l : Lane) (f : FullPolicy) : Bool :=
  inSet s r author q && full s q && decide (f = .dropOldest) && (oldest s.queues[q] l).isSome

/-- Whether a port receives an entry (R49, R51 to R53). -/
def receives (s : State) (r : Rule) (author q : Port) (l : Lane) (f : FullPolicy) : Bool :=
  inSet s r author q && (!full s q || evicts s r author q l f)

/-- A port's queue after a QUEUED submission (R49, R51 to R53). -/
def queueAfter (s : State) (r : Rule) (author q : Port) (f : FullPolicy) (e : Entry) : Queue :=
  if !inSet s r author q then s.queues[q]
  else if !full s q then withEntry s.queues[q] e
  else if evicts s r author q e.lane f then withEntry (overflowed (withoutOldest s.queues[q] e.lane)) e
  else overflowed s.queues[q]

/-- How many references to a slot the evictions of a submission drop. -/
def evictionsOf (s : State) (r : Rule) (author : Port) (l : Lane) (f : FullPolicy) (i : SlotIx) : Nat :=
  (List.finRange 4).countP fun q =>
    evicts s r author q l f && decide ((oldest s.queues[q] l).map (fun e => e.slot) = some i)

/-- The sequence counter after a sequence is given (R42). -/
def counterAfter (n : Seq) : SequenceCounter :=
  if n.toNat = 2 ^ 48 - 1 then .exhausted else .next (n + 1#48)

/-- The message an accepted submission makes of a slot (R12, R28, R55, R56). -/
def posted (s : State) (author : Port) (payload : Payload) (length : Fin 65) (tag : Half) (r : Rule) (n : Seq)
    (kind : Kind) (refs : Nat) : Message where
  payload := payload
  length := length
  tag := tag
  routeTag := match r.rewrite with
    | some x => x
    | none => tag
  author := author
  sequence := n
  stamp := s.timeBase
  kind := kind
  refs := refs

/-! ### Hands -/

/-- The first 20 bytes of the message record of spec/10 section 10.6. -/
def record (b0 : Byte) (slot : SlotIx) (n : Seq) (b8 b9 : Byte) (m : Message) : List Byte :=
  [b0, BitVec.ofNat 8 slot.val] ++ le 6 n.toNat ++ [b8, b9, BitVec.ofNat 8 m.author.val] ++ le 2 m.tag.toNat ++
    le 2 m.routeTag.toNat ++ le 4 m.stamp.toNat ++ [BitVec.ofNat 8 m.length.val]

/-- The lane byte (R175). -/
def laneCode (l : Lane) : Byte :=
  match l with
  | .normal => 0#8
  | .urgent => 1#8

/-- The entry TAKE and PEEK look at, and the queue without it (R66). -/
def nextIs (q : Queue) (e : Entry) (rest : Queue) : Prop :=
  (∃ es, q.urgent = e :: es ∧ rest = { q with urgent := es }) ∨
    ∃ es, q.urgent = [] ∧ q.normal = e :: es ∧ rest = { q with normal := es }

/-- The pool after one hand entry lets go of its slot (R14, R15). -/
def poolLess (pl : Pool) (e : Entry) : Pool :=
  poolAfter pl fun i => afterDrops pl.slots[i] (if e.slot = i then 1 else 0)

/-- The blocks after a hand entry ended at a position, with a further change to the queue's counters. -/
def endedBlocks (s : State) (p : Port) (k : Handle) (e : Entry) (count : Queue → Queue) : Blocks :=
  { blocks s with
    pool := poolLess s.pool e
    queues := s.queues.set p (count { s.queues[p] with hand := s.queues[p].hand.set k none }) }

/-- Whether the position is the only occupied one of the port's hand. -/
def lastInHand (s : State) (p : Port) (k : Handle) : Prop := ∀ k' : Handle, k' ≠ k → s.queues[p].hand[k'] = none

/-- Where a lane takes an entry back: before the first entry with a greater sequence, or at the tail (R76). -/
def takenBack (before after : List Entry) (e : Entry) : Prop :=
  ∃ xs ys, before = xs ++ ys ∧ after = xs ++ e :: ys ∧ (∀ x ∈ xs, ¬e.sequence < x.sequence) ∧
    ∀ y ys', ys = y :: ys' → e.sequence < y.sequence

/-- The queue after an entry leaves the hand for its lane (R71, R74, R76). -/
def queueTakesBack (q q' : Queue) (k : Handle) (e : Entry) : Prop :=
  match e.lane with
  | .urgent => ∃ l, takenBack q.urgent l e ∧ q' = { q with hand := q.hand.set k none, urgent := l }
  | .normal => ∃ l, takenBack q.normal l e ∧ q' = { q with hand := q.hand.set k none, normal := l }

/-! ### Boards and pulls -/

/-- Whether a port has a PENDING pull on a board. -/
def pulling (s : State) (p : Port) (b : BoardIx) : Prop :=
  ∃ e ∈ s.pulls, e.requester = p ∧ e.board = b ∧ ∃ x, e.state = .waiting x

/-- Whether a port has a DONE pull on a board with this outcome. -/
def uncollected (s : State) (p : Port) (b : BoardIx) (o : PullOutcome) : Prop :=
  ∃ e ∈ s.pulls, e.requester = p ∧ e.board = b ∧ e.state = .done o

/-- The number of a requester's entries. -/
def pullsOf (s : State) (p : Port) : Nat := s.pulls.countP fun e => decide (e.requester = p)

/-- The code of a pull's outcome and the sequence COLLECT reports (R175, spec/10 section 10.6). -/
def outcomeBytes (o : PullOutcome) : List Byte :=
  match o with
  | .satisfied n => [1#8] ++ le 6 n.toNat
  | .expired => [2#8] ++ le 6 0
  | .supplierLost => [3#8] ++ le 6 0
  | .boardWithdrawn => [4#8] ++ le 6 0

/-- How a commit ends a PENDING pull: the first case of R109 that applies, none where it stays. -/
def endedByCommit (s : State) (new : Table) (e : Pull) : Option PullOutcome :=
  if new.boards[e.board].enabled = false then some .boardWithdrawn
  else
    match new.boards[e.board].supplier with
    | none => some .supplierLost
    | some q => if q = e.requester ∨ openAt s q = false then some .supplierLost else none

/-- The blocks after a successful commit (R35, R95, R96, R109, R128). -/
def committed (s : State) (p : Port) (new : Table) : Blocks :=
  let gone (b : BoardIx) : Bool := s.table.boards[b].enabled && !new.boards[b].enabled
  { blocks s with
    table := new
    generation := s.generation + 1#16
    claim := none
    pool := poolAfter s.pool fun i =>
      afterDrops s.pool.slots[i] ((List.finRange 32).countP fun b => gone b && decide (s.boards[b].held = some i))
    boards := Vector.ofFn fun b : BoardIx =>
      if gone b then
        { held := none
          lastSequence := 0#48
          unread := Vector.replicate 4 false
          overwrites := Vector.replicate 4 0#8 }
      else s.boards[b]
    pulls := s.pulls.map fun e =>
      match e.state with
      | .waiting _ =>
        match endedByCommit s new e with
        | some o => { e with state := .done o }
        | none => e
      | .done _ => e
    latched := Vector.ofFn fun q : Port =>
      if openAt s q && decide (q ≠ p) then { s.attention[q].latched with tableChanged := true }
      else s.attention[q].latched }

/-! ### Validation (R127) -/

/-- The reason code with which a rule fails validation, if it does (R127). -/
def invalidity (t : Table) (r : Rule) : Option Byte :=
  if r.valid = false then none
  else if (∀ p : Port, r.source[p] = false) then some 1#8
  else
    match r.cls with
    | .board b => if t.boards[b].enabled = false then some 2#8 else none
    | .queued _ _ => none

/-! ### STATUS -/

/-- The pending reasons of a port in order of priority (R176). -/
def pendingReasons (s : State) (p : Port) : List Bool :=
  [ decide (s.sessions[p].phase = .fenced),
    s.attention[p].latched.claimLapsed,
    s.attention[p].latched.discarded,
    s.attention[p].latched.overflow,
    s.attention[p].latched.tableChanged,
    s.pulls.any fun e => decide (e.requester = p) && !waits e,
    (List.finRange 32).any fun b => s.wanted[p][b],
    (List.finRange 32).any fun b => s.boards[b].unread[p],
    !s.queues[p].urgent.isEmpty,
    !s.queues[p].normal.isEmpty ]

/-- The priority of the top reason, 0 for NONE (R181): the first pending reason that is FENCED or enabled. -/
def topReasonIs (s : State) (p : Port) (n : Nat) : Prop :=
  let counts (k : Nat) : Prop :=
    (pendingReasons s p)[k]? = some true ∧ (k = 0 ∨ s.attention[p].mask.getLsbD k = true)
  (n = 0 ∧ ∀ k, ¬counts k) ∨ ∃ k, n = k + 1 ∧ counts k ∧ ∀ j, j < k → ¬counts j

/-- The DONE entries of a requester in list order, each as board and outcome (R101, R182). -/
def donePairs (s : State) (p : Port) : List (List Byte) :=
  s.pulls.filterMap fun e =>
    match e.state with
    | .done o => if e.requester = p then some ([BitVec.ofNat 8 e.board.val] ++ (outcomeBytes o).take 1) else none
    | .waiting _ => none

/-! ### Time -/

/-- A timer at a tick that finds the time base at `now` (R156, R158). -/
def examined (now : Stamp) (x : Timer) : Timer :=
  { x with due := x.due || decide (x.duration.toNat * 1000 ≤ (now - x.start).toNat) }

/-- The state after `n` TIME_BASE_ADVANCE commands. -/
def afterMicroseconds : Nat → State → State
  | 0, s => s
  | n + 1, s =>
    match exec .timeBaseAdvance s with
    | .next t => afterMicroseconds n t
    | .fault _ => s
    | .refused _ => s

/-! ### What goes over the pins of a port -/

/-- The edges that clock in a run of bits, the clock rising and falling once for each. -/
def clocked (bits : List Bool) : List LinkEdge := bits.flatMap fun b => [.clockRises b, .clockFalls]

/-- How many times the clock rises. -/
def risingEdges : List LinkEdge → Nat
  | [] => 0
  | .clockRises _ :: es => risingEdges es + 1
  | _ :: es => risingEdges es

/-- Bit `i` of the held response, each byte most significant bit first, and 0 past its last byte (R161, R170). -/
def heldBit (s : State) (p : Port) (i : Nat) : Bool :=
  if h : i / 8 < (responseBytes s.links[p].held).length then
    (responseBytes s.links[p].held)[i / 8].getLsbD (7 - i % 8)
  else false

/-- A request frame: command code, the byte of the request number, argument length, arguments and CRC (R163). -/
def framed (code num : Byte) (args : List Byte) : List Byte :=
  let body := code :: num :: BitVec.ofNat 8 args.length :: args
  body ++ le 2 (crcOf body)

/-- The codes of the command table with the least and the greatest argument length (spec/10 section 10.6). -/
def commandTable : List (Byte × Nat × Nat) :=
  [(0x00#8, 0, 0), (0x01#8, 8, 8), (0x02#8, 0, 0), (0x03#8, 0, 0), (0x04#8, 0, 0), (0x10#8, 0, 0), (0x11#8, 2, 66),
    (0x12#8, 1, 1), (0x13#8, 4, 4), (0x20#8, 0, 0), (0x21#8, 0, 0), (0x22#8, 7, 7), (0x23#8, 7, 7), (0x24#8, 7, 7),
    (0x30#8, 1, 1), (0x31#8, 1, 1), (0x32#8, 1, 1), (0x33#8, 1, 1), (0x40#8, 0, 0), (0x41#8, 14, 14), (0x42#8, 1, 1),
    (0x43#8, 5, 5), (0x44#8, 2, 2), (0x45#8, 2, 2), (0x46#8, 0, 0), (0x47#8, 0, 0), (0x50#8, 0, 0), (0x51#8, 2, 2),
    (0x52#8, 2, 2), (0x53#8, 2, 2)]

/-- The 13 bytes of a rule as READ_RULE returns it, field by field (R175 and spec/10 section 10.6). -/
def ruleBytes (r : Rule) : List Byte :=
  [BitVec.ofNat 8 ((if r.valid then 1 else 0) + (if r.echo then 2 else 0) + (if r.rewrite.isSome then 4 else 0)),
    match r.cls with
    | .queued _ _ => 0#8
    | .board _ => 1#8] ++
  le 2 r.tag.toNat ++ le 2 r.mask.toNat ++ [portsByte fun q => r.source[q], portsByte fun q => r.dest[q]] ++
  (match r.rewrite with
    | some w => le 2 w.toNat
    | none => [0#8, 0#8]) ++
  match r.cls with
  | .queued lane policy =>
    [laneCode lane, policyCode policy, 0xFF#8]
  | .board b => [0xFF#8, 0xFF#8, BitVec.ofNat 8 b.val]

end Sys2Proof.Statements

open Sys2Proof Sys2Proof.Machine Sys2Proof.Safety Sys2Proof.Statements

/-! ### The queue, the link and the frames -/

/-- The block's step: the command at the front of the queue is executed on the state with the queue's rest, and
an empty queue leaves the state as it is. -/
def Obligations.StepTakesTheFrontCommand : Prop :=
  (∀ (c : Instr) (rest : List Instr) (s : State),
    step { s with pending := c :: rest } = exec c { s with pending := rest }) ∧
    ∀ s : State, s.pending = [] → step s = .next s

/-- R163, R164: the frame of a request, whatever bits 7 to 4 of its second byte and whatever bytes are clocked
after it, is judged well-formed and read as that request. -/
def Obligations.RequestFrameIsReadAsItsRequest : Prop :=
  ∀ (c : Instr) (r : Request) (upper : BitVec 4) (extra : List Byte),
    c.wellFormed = true → c.request? = some r → commandOf r.head.port (r.frame upper ++ extra) = c

/-- R164 and the command table of spec/10 section 10.6: the CRC is the one R164 describes, 29B1h over the nine bytes
31h to 39h; two frames written out byte by byte and, for every code of the table, a frame with any arguments of the
table's length are read as the request they carry, each argument byte in the field the table gives it. -/
def Obligations.CrcCheckValueAndWrittenFrames : Prop :=
  crc16 [0x31#8, 0x32#8, 0x33#8, 0x34#8, 0x35#8, 0x36#8, 0x37#8, 0x38#8, 0x39#8] = 0x29B1#16 ∧
    (∀ bytes : List Byte, (crc16 bytes).toNat = crcOf bytes) ∧
    (∀ p : Port,
      commandOf p ([0x13#8, 0x07#8, 0x04#8, 30#8, 0x01#8, 0x02#8, 8#8] ++
        le 2 (crcOf [0x13#8, 0x07#8, 0x04#8, 30#8, 0x01#8, 0x02#8, 8#8])) =
        .submit ⟨p, 7#4⟩ 30 0x0201#16 8#8) ∧
    (∀ p : Port,
      commandOf p ([0x22#8, 0xF3#8, 0x07#8, 1#8, 0x10#8, 0x20#8, 0#8, 0#8, 0#8, 0x80#8] ++
        le 2 (crcOf [0x22#8, 0xF3#8, 0x07#8, 1#8, 0x10#8, 0x20#8, 0#8, 0#8, 0#8, 0x80#8])) =
        .release ⟨p, 3#4⟩ 1#8 0x800000002010#48) ∧
    ∀ (p : Port) (num : Byte),
      let h : Head := { port := p, number := num.setWidth 4 }
      let reads (code : Byte) (args : List Byte) (c : Instr) : Prop := commandOf p (framed code num args) = c
      (reads 0x00#8 [] (.poll h) ∧ reads 0x02#8 [] (.close h) ∧ reads 0x03#8 [] (.unfence h) ∧
        reads 0x04#8 [] (.resetPort h) ∧ reads 0x10#8 [] (.reserve h) ∧ reads 0x20#8 [] (.take h) ∧
        reads 0x21#8 [] (.peek h) ∧ reads 0x40#8 [] (.claim h) ∧ reads 0x46#8 [] (.commit h) ∧
        reads 0x47#8 [] (.dropClaim h) ∧ reads 0x50#8 [] (.status h)) ∧
      (∀ a : Byte,
        reads 0x12#8 [a] (.abandon h a.toFin) ∧ reads 0x30#8 [a] (.readBoard h a) ∧ reads 0x31#8 [a] (.pull h a) ∧
          reads 0x32#8 [a] (.cancelPull h a) ∧ reads 0x33#8 [a] (.collect h a) ∧ reads 0x42#8 [a] (.clearRule h a)) ∧
      (∀ a b : Byte,
        reads 0x44#8 [a, b] (.readRule h a b) ∧ reads 0x45#8 [a, b] (.readBoarddef h a b) ∧
          reads 0x51#8 [a, b] (.ackReasons h (b ++ a)) ∧ reads 0x52#8 [a, b] (.setAttention h (b ++ a)) ∧
          reads 0x53#8 [a, b] (.stats h a b)) ∧
      (∀ k q0 q1 q2 q3 q4 q5 : Byte,
        let q : Seq := q5 ++ q4 ++ q3 ++ q2 ++ q1 ++ q0
        reads 0x22#8 [k, q0, q1, q2, q3, q4, q5] (.release h k q) ∧
          reads 0x23#8 [k, q0, q1, q2, q3, q4, q5] (.giveBack h k q) ∧
          reads 0x24#8 [k, q0, q1, q2, q3, q4, q5] (.renew h k q)) ∧
      (∀ l0 l1 s0 s1 off d c r : Byte,
        reads 0x01#8 [l0, l1, s0, s1, off, d, c, r]
          (.openSession h { lease := l1 ++ l0, silence := s1 ++ s0, silenceOff := off, depth := d, composing := c,
                            redelivery := r })) ∧
      (∀ (slot offset : Byte) (data : List Byte), data.length ≤ 64 →
        reads 0x11#8 (slot :: offset :: data) (.write h slot.toFin offset data)) ∧
      (∀ slot t0 t1 length : Byte,
        reads 0x13#8 [slot, t0, t1, length] (.submit h slot.toFin (t1 ++ t0) length)) ∧
      (∀ i flags cls t0 t1 m0 m1 source dest r0 r1 lane policy board : Byte,
        reads 0x41#8 [i, flags, cls, t0, t1, m0, m1, source, dest, r0, r1, lane, policy, board]
          (.editRule h i { flags := flags, cls := cls, tag := t1 ++ t0, mask := m1 ++ m0, source := source,
                           dest := dest, rewrite := r1 ++ r0, lane := lane, policy := policy, board := board })) ∧
      ∀ i flags supplier p0 p1 : Byte,
        reads 0x43#8 [i, flags, supplier, p0, p1]
          (.editBoard h i { flags := flags, supplier := supplier, pullTimeout := p1 ++ p0 })

/-- R161, R162, R163, R173 (and R174 for a short pulse): the clocked bits gather most significant first into whole
bytes, and a last byte of fewer than eight bits is dropped. A transaction that starts too soon changes nothing and
reads 0. A received one is judged from its whole bytes while the port presents the held response as it stood at the
start, bit by bit from chip select going low and stable at each rising edge, then 0; with chip select high again it
drives nothing. One on whose way RESET_N goes low is lost, released or not, and reads 0 from there on. -/
def Obligations.TransactionsDriveTheHeldResponseOrZeros : Prop :=
  (∀ (bytes : List Byte) (rest : List Bool), rest.length < 8 →
    gather (bytes.flatMap (fun b => [b.getLsbD 7, b.getLsbD 6, b.getLsbD 5, b.getLsbD 4, b.getLsbD 3, b.getLsbD 2,
      b.getLsbD 1, b.getLsbD 0]) ++ rest) = bytes) ∧
  (∀ (t : Transaction) (s : State),
    ((∃ us, t.sincePrevious = some us ∧ us < 2) ∨ t.sinceRelease = none ∨
      ∃ us, t.sinceRelease = some us ∧ us < 50) →
    t.command = .transactionTooSoon t.port ∧ exec t.command s = .next s ∧
      t.dataOut s = List.replicate (risingEdges t.edges) false) ∧
  (∀ (p : Port) (release : Nat) (previous : Option Nat) (bits : List Bool) (s : State),
    s.resetN = true → 50 ≤ release → (∀ us, previous = some us → 2 ≤ us) →
    let t : Transaction := ⟨p, some release, previous, clocked bits⟩
    t.command = commandOf p (gather bits) ∧ (t.dataOut s).length = bits.length ∧
      (∀ i, i < bits.length →
        (t.dataOut s)[i]? = some (heldBit s p i) ∧ t.dataOutAt s (2 * i + 1) = some (heldBit s p i)) ∧
      (∀ i, i ≤ bits.length → t.dataOutAt s (2 * i) = some (heldBit s p i)) ∧
      ∀ k, 2 * bits.length < k → t.dataOutAt s k = none) ∧
  ∀ (p : Port) (release previous : Option Nat) (before after : List LinkEdge) (s : State),
    let around (es : List LinkEdge) : Transaction := ⟨p, release, previous, es⟩
    let lost (t : Transaction) : Prop :=
      t.command = .transactionTooSoon p ∧ (∀ s' : State, exec t.command s' = .next s') ∧
        t.dataOut s = (around before).dataOut s ++ List.replicate (risingEdges after) false
    lost (around (before ++ .resetFalls :: after)) ∧
      ∀ n : Nat,
        if Config.shortPulseResets n = true then lost (around (before ++ .shortPulse n :: after))
        else
          (around (before ++ .shortPulse n :: after)).command = (around (before ++ after)).command ∧
            (around (before ++ .shortPulse n :: after)).dataOut s = (around (before ++ after)).dataOut s

/-- R165 (with the tests of R163 and R164): a transaction of fewer than 5 bytes, with a length byte above 72 or with
fewer bytes than its length asks for is LINK_TRUNCATED, a complete frame with other CRC bytes is LINK_CRC, and both
replace the held response and count, and change nothing else: no other part of the link record, no session, no
block. -/
def Obligations.LinkErrorsReplaceTheHeldResponse : Prop :=
  (∀ (p : Port) (bytes : List Byte),
    (bytes.length < 5 ∨ ∃ c n l rest, bytes = c :: n :: l :: rest ∧
      (72 < l.toNat ∨ bytes.length < 5 + l.toNat)) → commandOf p bytes = .linkTruncated p bytes) ∧
  (∀ (p : Port) (code num : Byte) (args crc extra : List Byte), args.length ≤ 72 → crc.length = 2 →
    crc ≠ le 2 (crcOf (code :: num :: BitVec.ofNat 8 args.length :: args)) →
    let bytes := code :: num :: BitVec.ofNat 8 args.length :: (args ++ (crc ++ extra))
    commandOf p bytes = .linkCrc p bytes) ∧
  (∀ (p : Port) (bytes : List Byte) (s : State), s.resetN = true →
    exec (.linkTruncated p bytes) s = .next { s with
      links := s.links.set p { s.links[p] with
        held :=
          { command := bytes.headD 0#8
            session := stateOf s.sessions[p].phase
            number := (bytes.tail.headD 0#8).setWidth 4
            outcome := .linkTruncated
            epoch := s.sessions[p].epoch
            content := [] }
        truncated := raised s.links[p].truncated 1 } }) ∧
  ∀ (p : Port) (bytes : List Byte) (s : State), s.resetN = true →
    exec (.linkCrc p bytes) s = .next { s with
      links := s.links.set p { s.links[p] with
        held :=
          { command := bytes.headD 0#8
            session := stateOf s.sessions[p].phase
            number := (bytes.tail.headD 0#8).setWidth 4
            outcome := .linkCrc
            epoch := s.sessions[p].epoch
            content := [] }
        crcErrors := raised s.links[p].crcErrors 1 } }

/-- R167: a frame whose code is not in the command table, or whose argument length is not the one the table gives its
code, is refused at the first check, and is executed as a refusal in every session state and whatever the last request
was: BAD_COMMAND for a code the table does not know, BAD_LENGTH for one it knows. -/
def Obligations.FirstCheckRefusesAndExecutes : Prop :=
  (∀ (p : Port) (code num : Byte) (args extra : List Byte), args.length ≤ 72 →
    (∀ row ∈ commandTable, row.1 = code → args.length < row.2.1 ∨ row.2.2 < args.length) →
    commandOf p (framed code num args ++ extra) = .badCommand ⟨p, num.setWidth 4⟩ code args) ∧
  ∀ (h : Head) (code : Byte) (args : List Byte) (s : State), s.resetN = true →
    Completes (.badCommand h code args) s fun t =>
      Unchanged s t h code (if ∃ row ∈ commandTable, row.1 = code then .badLength else .badCommand) []

/-- R168: POLL is not executed: it restarts the silence deadline where one exists and changes nothing else. -/
def Obligations.PollOnlyRestartsTheSilenceDeadline : Prop :=
  ∀ (h : Head) (s : State), s.resetN = true →
    exec (.poll h) s = .next { s with
      sessions := s.sessions.set h.port { s.sessions[h.port] with phase := heardPhase s h.port } }

/-- R169: a request that repeats the last request number and the command of the last executed response is not
executed: the last executed response is copied into the held one, the duplicate counter rises, the silence deadline
restarts, and no block is reached, whatever the arguments and the session state. -/
def Obligations.DuplicateIsAnsweredFromTheRecord : Prop :=
  ∀ (c : Instr) (r : Request) (s : State),
    isKnownRequest c = true → c.request? = some r → s.resetN = true →
    s.links[r.head.port].lastNumber = some r.head.number →
    s.links[r.head.port].lastExecuted.command = r.code →
    Completes c s fun t =>
      t.links = s.links.set r.head.port { s.links[r.head.port] with
        held := s.links[r.head.port].lastExecuted
        duplicates := raised s.links[r.head.port].duplicates 1 } ∧
      InPhase s t r.head.port (heardPhase s r.head.port) ∧ blocks t = blocks s ∧ Settled t

/-- R136: the session table. A request the port's session state does not admit is refused with the outcome the
table names, is executed, and changes nothing in any block. -/
def Obligations.SessionStateRefusesWithoutEffect : Prop :=
  ∀ (c : Instr) (r : Request) (s : State) (o : OutcomeCode),
    isKnownRequest c = true → c.request? = some r → Fresh s r.head r.code →
    refusedIn c (stateOf s.sessions[r.head.port].phase) = some o →
    Completes c s fun t => Unchanged s t r.head r.code o []

/-- The argument ranges: a request the session admits and whose operands are out of range is refused with
BAD_ARGUMENT and changes nothing in any block. -/
def Obligations.OperandsOutOfRangeAreRefused : Prop :=
  ∀ (c : Instr) (r : Request) (s : State),
    isKnownRequest c = true → c.request? = some r → Fresh s r.head r.code →
    refusedIn c (stateOf s.sessions[r.head.port].phase) = none → outOfRange c →
    Completes c s fun t => Unchanged s t r.head r.code .badArgument []

/-- R159, R173: while RESET_N is low, no transaction, no tick, no microsecond and no expiry changes anything. -/
def Obligations.NothingHappensWhileResetIsLow : Prop :=
  ∀ (c : Instr) (s : State), s.resetN = false → c ≠ .resetNAssert → c ≠ .resetNRelease → c ≠ .resetNShortPulse →
    exec c s = .next s

/-! ### Sessions -/

/-- R137, R138, R139: an OPEN taken in CLOSED whose fields all give values in force opens the session. -/
def Obligations.OpenStartsASession : Prop :=
  ∀ (h : Head) (a : OpenArgs) (s : State) (limit : Option Half) (depth composing redelivery : Nat),
    Fresh s h 0x01#8 → s.sessions[h.port].phase = .closed → silenceGiven a limit →
    limitGiven a.depth 32 128 depth → limitGiven a.composing 4 16 composing →
    limitGiven a.redelivery 3 7 redelivery →
    let lease : Half := if a.lease = 0#16 then 1000#16 else a.lease
    Completes (.openSession h a) s fun t =>
      Responded s t h 0x01#8 .ok
        (le 2 lease.toNat ++ le 2 (limit.getD 0#16).toNat ++
          [if limit = none then 1#8 else 0#8, BitVec.ofNat 8 depth, BitVec.ofNat 8 composing,
            BitVec.ofNat 8 redelivery]) none ∧
      t.sessions = s.sessions.set h.port
        { phase := .opened
            { lease := lease
              silence := limit.map (timer s.timeBase)
              depth := depth
              composing := composing
              redelivery := redelivery }
          epoch := s.sessions[h.port].epoch + 1#8 } ∧
      blocks t = { blocks s with
        latched := (s.attention.map fun x => x.latched).set h.port
          { claimLapsed := false, discarded := false, overflow := false, tableChanged := false }
        mask := (s.attention.map fun x => x.mask).set h.port 0x03FE#16 } ∧
      Settled t

/-- R145, R146: a CLOSE taken in OPEN does the teardown with the hand kept and enters CLOSING when the hand holds
entries, CLOSED when it does not; taken in CLOSING it changes nothing; it is refused with NOT_OPEN in CLOSED and with FENCED
in FENCED. -/
def Obligations.CloseTearsDownAndKeepsTheHand : Prop :=
  ∀ (h : Head) (s : State), Fresh s h 0x02#8 →
    (∀ c : Conn, s.sessions[h.port].phase = .opened c →
      Completes (.close h) s fun t =>
        let n := handSize s.queues[h.port]
        Responded s t h 0x02#8 .ok [if n = 0 then 0#8 else 2#8, BitVec.ofNat 8 n] (some h.number) ∧
        InPhase s t h.port (if n = 0 then .closed else .closing (restart s.timeBase c)) ∧
        blocks t = tornBlocks s h.port false ∧ Settled t) ∧
    (∀ c : Conn, s.sessions[h.port].phase = .closing c →
      Completes (.close h) s fun t =>
        Unchanged s t h 0x02#8 .ok [2#8, BitVec.ofNat 8 (handSize s.queues[h.port])]) ∧
    (s.sessions[h.port].phase = .closed → Completes (.close h) s fun t => Unchanged s t h 0x02#8 .notOpen []) ∧
    (s.sessions[h.port].phase = .fenced → Completes (.close h) s fun t => Unchanged s t h 0x02#8 .fenced [])

/-- R149: UNFENCE taken in FENCED makes the session CLOSED, keeps the epoch and takes nothing else. -/
def Obligations.UnfenceClosesAFencedPort : Prop :=
  ∀ (h : Head) (s : State), Fresh s h 0x03#8 → s.sessions[h.port].phase = .fenced →
    Completes (.unfence h) s fun t =>
      Responded s t h 0x03#8 .ok [] (some h.number) ∧ InPhase s t h.port .closed ∧ blocks t = blocks s ∧ Settled t

/-- R150: RESET_PORT is taken in every session state, takes back what that state's row says and leaves the session
CLOSED; the response gives the state it found and the hand entries it discarded. -/
def Obligations.ResetPortClosesFromEveryState : Prop :=
  ∀ (h : Head) (s : State), Fresh s h 0x04#8 →
    Completes (.resetPort h) s fun t =>
      Responded s t h 0x04#8 .ok
        [match s.sessions[h.port].phase with
          | .closed => 0#8
          | .opened _ => 1#8
          | .closing _ => 2#8
          | .fenced => 3#8,
          BitVec.ofNat 8 (handSize s.queues[h.port])] (some h.number) ∧
      InPhase s t h.port .closed ∧
      blocks t =
        (match s.sessions[h.port].phase with
          | .opened _ => tornBlocks s h.port true
          | .closing _ => handDiscarded s h.port
          | .closed => blocks s
          | .fenced => blocks s) ∧
      Settled t

/-- R141: the silence expiry fences the port: full teardown with the hand discarded, the session FENCED, the epoch
and the link record as they were; it is taken only where the port's silence timer is due (the due mark is
the model's, log entry 7). -/
def Obligations.SilenceExpiryFencesThePort : Prop :=
  ∀ (p : Port) (s : State), s.resetN = true →
    (∀ (c : Conn) (x : Timer), connOf s.sessions[p].phase = some c → c.silence = some x → x.due = true →
      Completes (.silenceExpiry p) s fun t =>
        t.links = s.links ∧ InPhase s t p .fenced ∧ blocks t = tornBlocks s p true ∧ Settled t) ∧
    ((∀ (c : Conn) (x : Timer), connOf s.sessions[p].phase = some c → c.silence = some x → x.due = false) →
      exec (.silenceExpiry p) s = .next s)

/-! ### The Slot Pool -/

/-- R5: an accepted RESERVE takes the slot at the head of the free list into COMPOSING for the port, zeroes its
payload, and reports its index and the number of slots left. -/
def Obligations.ReserveTakesTheHeadOfTheFreeList : Prop :=
  ∀ (h : Head) (s : State) (c : Conn) (i : SlotIx) (rest : List SlotIx),
    Fresh s h 0x10#8 → s.sessions[h.port].phase = .opened c →
    composingOf s h.port ≠ c.composing → s.pool.freeList = i :: rest →
    Completes (.reserve h) s fun t =>
      Executed s t h 0x10#8 .ok [BitVec.ofNat 8 i.val, BitVec.ofNat 8 rest.length] ∧
      blocks t = { blocks s with
        pool := { s.pool with
          slots := s.pool.slots.set i (.composing h.port (Vector.replicate 64 0#8))
          freeList := rest } }

/-- R8, R10: an accepted WRITE replaces the payload bytes from the offset on by its data, and no other byte; an accepted
ABANDON frees the slot to the tail of the free list. -/
def Obligations.ComposingSlotsAreWrittenAndAbandoned : Prop :=
  ∀ (h : Head) (s : State) (c : Conn) (slot : SlotIx) (payload : Payload),
    s.sessions[h.port].phase = .opened c → s.pool.slots[slot] = .composing h.port payload →
    (∀ (offset : Byte) (data : List Byte), Fresh s h 0x11#8 → offset.toNat + data.length ≤ 64 →
      Completes (.write h slot offset data) s fun t =>
        Executed s t h 0x11#8 .ok [] ∧
        ∃ payload' : Payload,
          (∀ (k : Fin 64) (b : Byte), offset.toNat ≤ k.val → data[k.val - offset.toNat]? = some b →
            payload'[k] = b) ∧
          (∀ k : Fin 64, k.val < offset.toNat ∨ offset.toNat + data.length ≤ k.val → payload'[k] = payload[k]) ∧
          blocks t = { blocks s with
            pool := { s.pool with slots := s.pool.slots.set slot (.composing h.port payload') } }) ∧
    (Fresh s h 0x12#8 →
      Completes (.abandon h slot) s fun t =>
        Executed s t h 0x12#8 .ok [] ∧
        blocks t = { blocks s with
          pool := { s.pool with
            slots := s.pool.slots.set slot .free
            freeList := s.pool.freeList ++ [slot] } })

/-- R5, R6, R8, R10, R40, R43, R50: what the pool and the Routing Unit refuse, in the order of their checks, and that a
refusal changes nothing but, for POOL_EMPTY, the pool-empty counter. -/
def Obligations.PoolAndRoutingRefusals : Prop :=
  ∀ (h : Head) (s : State) (c : Conn), s.sessions[h.port].phase = .opened c →
    (Fresh s h 0x10#8 → composingOf s h.port = c.composing →
      Completes (.reserve h) s fun t => Unchanged s t h 0x10#8 .composeLimit []) ∧
    (Fresh s h 0x10#8 → composingOf s h.port ≠ c.composing → s.pool.freeList = [] →
      Completes (.reserve h) s fun t =>
        Executed s t h 0x10#8 .poolEmpty [] ∧
        blocks t = { blocks s with pool := { s.pool with poolEmpty := raised s.pool.poolEmpty 1 } }) ∧
    (∀ slot : SlotIx, (∀ payload, s.pool.slots[slot] ≠ .composing h.port payload) →
      (∀ (offset : Byte) (data : List Byte), Fresh s h 0x11#8 → offset.toNat + data.length ≤ 64 →
        Completes (.write h slot offset data) s fun t => Unchanged s t h 0x11#8 .notYourSlot []) ∧
      (Fresh s h 0x12#8 → Completes (.abandon h slot) s fun t => Unchanged s t h 0x12#8 .notYourSlot []) ∧
      ∀ (tag : Half) (length : Byte), Fresh s h 0x13#8 → length.toNat ≤ 64 →
        Completes (.submit h slot tag length) s fun t => Unchanged s t h 0x13#8 .notYourSlot []) ∧
    ∀ (slot : SlotIx) (payload : Payload) (tag : Half) (length : Byte), Fresh s h 0x13#8 → length.toNat ≤ 64 →
      s.pool.slots[slot] = .composing h.port payload →
      (s.sequence = .exhausted →
        Completes (.submit h slot tag length) s fun t => Unchanged s t h 0x13#8 .sequenceExhausted []) ∧
      ∀ n : Seq, s.sequence = .next n →
        ((∀ i : RuleIx, ¬passes s.table.rules[i] tag h.port) →
          Completes (.submit h slot tag length) s fun t => Unchanged s t h 0x13#8 .noRoute []) ∧
        ∀ (r : Rule) (lane : Lane), governs s.table tag h.port r → r.cls = .queued lane .refuse →
          (∃ q : Port, inSet s r h.port q = true ∧ full s q = true) →
          Completes (.submit h slot tag length) s fun t =>
            Unchanged s t h 0x13#8 .queueFull
              [portsByte fun q => inSet s r h.port q && full s q]

/-! ### Submission -/

/-- R25 (with the tests of R23 and R24): the governing rule is the lowest-indexed valid rule whose tag test and
source test both pass. -/
def Obligations.FirstPassingRuleGoverns : Prop :=
  ∀ (t : Table) (tag : Half) (author : Port),
    (∀ r : Rule, t.govern tag author = some r ↔ governs t tag author r) ∧
      (t.govern tag author = none ↔ ∀ i : RuleIx, ¬passes t.rules[i] tag author)

/-- R49, R51, R52, R53, R55: a QUEUED submission that is accepted (no full destination under REFUSE): every port's
queue, the slot, the slots of evicted entries, the free list, the sequence counter, the undelivered counter, the
OVERFLOW flags and the response. -/
def Obligations.QueuedSubmissionDelivers : Prop :=
  ∀ (h : Head) (s : State) (c : Conn) (slot : SlotIx) (tag : Half) (length : Byte) (len : Fin 65)
    (payload : Payload) (n : Seq) (r : Rule) (lane : Lane) (f : FullPolicy),
    Fresh s h 0x13#8 → s.sessions[h.port].phase = .opened c → length.toNat = len.val →
    s.pool.slots[slot] = .composing h.port payload → s.sequence = .next n → governs s.table tag h.port r →
    r.cls = .queued lane f → (f = .refuse → ∀ q : Port, inSet s r h.port q = true → full s q = false) →
    let e : Entry := { slot := slot, sequence := n, lane := lane, redelivery := 0 }
    let deliveries := (List.finRange 4).countP fun q => receives s r h.port q lane f
    Completes (.submit h slot tag length) s fun t =>
      Executed s t h 0x13#8 .ok
        (le 6 n.toNat ++
          [0#8, portsByte fun q => receives s r h.port q lane f, 0xFF#8]) ∧
      blocks t = { blocks s with
        pool := poolAfter s.pool fun i =>
          let sl : Slot :=
            if i = slot then
              if deliveries = 0 then .free else .live (posted s h.port payload len tag r n .queued deliveries)
            else s.pool.slots[i]
          afterDrops sl (evictionsOf s r h.port lane f i)
        queues := Vector.ofFn fun q : Port => queueAfter s r h.port q f e
        sequence := counterAfter n
        undelivered := raised s.undelivered (absent s r h.port)
        latched := Vector.ofFn fun q : Port =>
          if inSet s r h.port q && full s q then { s.attention[q].latched with overflow := true }
          else s.attention[q].latched }

/-- R58, R88, R89, R106: a BOARD submission replaces the board's value, drops the slot it held, marks readers and
requesters, raises the overwrite counts of marks already set, and satisfies the board's pulls. -/
def Obligations.BoardSubmissionReplacesTheValue : Prop :=
  ∀ (h : Head) (s : State) (c : Conn) (slot : SlotIx) (tag : Half) (length : Byte) (len : Fin 65)
    (payload : Payload) (n : Seq) (r : Rule) (b : BoardIx),
    Fresh s h 0x13#8 → s.sessions[h.port].phase = .opened c → length.toNat = len.val →
    s.pool.slots[slot] = .composing h.port payload → s.sequence = .next n → governs s.table tag h.port r →
    r.cls = .board b →
    let marked (q : Port) : Bool :=
      inSet s r h.port q || s.pulls.any fun e => decide (e.requester = q) && decide (e.board = b) && waits e
    Completes (.submit h slot tag length) s fun t =>
      Executed s t h 0x13#8 .ok
        (le 6 n.toNat ++ [1#8, portsByte fun q => inSet s r h.port q, BitVec.ofNat 8 b.val]) ∧
      blocks t = { blocks s with
        pool := poolAfter s.pool fun i =>
          let sl : Slot := if i = slot then .live (posted s h.port payload len tag r n .boarded 1)
            else s.pool.slots[i]
          afterDrops sl (if s.boards[b].held = some i then 1 else 0)
        boards := s.boards.set b
          { held := some slot
            lastSequence := n
            unread := Vector.ofFn fun q : Port => s.boards[b].unread[q] || marked q
            overwrites := Vector.ofFn fun q : Port =>
              if marked q && s.boards[b].unread[q] then
                (if s.boards[b].overwrites[q] = 255#8 then 255#8 else s.boards[b].overwrites[q] + 1#8)
              else s.boards[b].overwrites[q] }
        pulls := s.pulls.map fun e =>
          if e.board = b ∧ waits e = true then { e with state := .done (.satisfied n) } else e
        sequence := counterAfter n
        undelivered := raised s.undelivered (absent s r h.port) }

/-! ### Queues and leases -/

/-- R66: an accepted TAKE moves the head of the URGENT lane, or else of the NORMAL lane, into the lowest free handle
under a lease of the port's lease time, and returns the message record with the first length bytes of the payload. -/
def Obligations.TakeMovesTheNextEntryToTheHand : Prop :=
  ∀ (h : Head) (s : State) (c : Conn) (k : Handle) (e : Entry) (rest : Queue) (m : Message),
    Fresh s h 0x20#8 → s.sessions[h.port].phase = .opened c → s.queues[h.port].hand[k] = none →
    (∀ j : Handle, j < k → s.queues[h.port].hand[j] ≠ none) → nextIs s.queues[h.port] e rest →
    s.pool.slots[e.slot] = .live m →
    Completes (.take h) s fun t =>
      Executed s t h 0x20#8 .ok
        (record (BitVec.ofNat 8 k.val) e.slot e.sequence (laneCode e.lane) (BitVec.ofNat 8 e.redelivery) m ++
          m.payload.toList.take m.length.val) ∧
      blocks t = { blocks s with
        queues := s.queues.set h.port
          { rest with hand := rest.hand.set k (some { entry := e, lease := timer s.timeBase c.lease }) } }

/-- R67: PEEK returns what a TAKE would take, without payload and handle, whether the hand is full or not; it is
answered EMPTY with both lanes empty; it changes no block. -/
def Obligations.PeekReportsWithoutChange : Prop :=
  ∀ (h : Head) (s : State) (c : Conn), Fresh s h 0x21#8 → s.sessions[h.port].phase = .opened c →
    (∀ (e : Entry) (rest : Queue) (m : Message), nextIs s.queues[h.port] e rest → s.pool.slots[e.slot] = .live m →
      Completes (.peek h) s fun t =>
        Unchanged s t h 0x21#8 .ok
          (record 0xFF#8 e.slot e.sequence (laneCode e.lane) (BitVec.ofNat 8 e.redelivery) m)) ∧
    (s.queues[h.port].urgent = [] → s.queues[h.port].normal = [] →
      Completes (.peek h) s fun t => Unchanged s t h 0x21#8 .empty [])

/-- R66, R69: HAND_FULL before EMPTY; EMPTY with both lanes empty; STALE_HANDLE where the position is free or
holds another sequence. Nothing changes. -/
def Obligations.QueueRefusalsChangeNothing : Prop :=
  ∀ (h : Head) (s : State),
    (∀ c : Conn, s.sessions[h.port].phase = .opened c →
      (Fresh s h 0x20#8 → (∀ k : Handle, s.queues[h.port].hand[k] ≠ none) →
        Completes (.take h) s fun t => Unchanged s t h 0x20#8 .handFull []) ∧
      (s.queues[h.port].urgent = [] → s.queues[h.port].normal = [] → Fresh s h 0x20#8 →
        (∃ k : Handle, s.queues[h.port].hand[k] = none) →
        Completes (.take h) s fun t => Unchanged s t h 0x20#8 .empty [])) ∧
    ∀ (handle : Byte) (k : Handle) (n : Seq), handle.toNat = k.val →
      (∀ x, s.queues[h.port].hand[k] = some x → x.entry.sequence ≠ n) →
      ((connOf s.sessions[h.port].phase).isSome = true →
        (Fresh s h 0x22#8 → Completes (.release h handle n) s fun t => Unchanged s t h 0x22#8 .staleHandle []) ∧
        (Fresh s h 0x23#8 → Completes (.giveBack h handle n) s fun t => Unchanged s t h 0x23#8 .staleHandle [])) ∧
      (openAt s h.port = true → Fresh s h 0x24#8 →
        Completes (.renew h handle n) s fun t => Unchanged s t h 0x24#8 .staleHandle [])

/-- R70, R147: a RELEASE that passes the test of R69 ends the entry and drops its reference; in OPEN and in CLOSING
alike; and where it takes the last entry out of a CLOSING hand the session becomes CLOSED and the latched reasons are
cleared, in the same event. -/
def Obligations.ReleaseEndsTheEntry : Prop :=
  ∀ (h : Head) (s : State) (handle : Byte) (k : Handle) (n : Seq) (x : HandEntry),
    Fresh s h 0x22#8 → handle.toNat = k.val → s.queues[h.port].hand[k] = some x → x.entry.sequence = n →
    (∀ c : Conn, s.sessions[h.port].phase = .opened c ∨
        (s.sessions[h.port].phase = .closing c ∧ ¬lastInHand s h.port k) →
      Completes (.release h handle n) s fun t =>
        Executed s t h 0x22#8 .ok [] ∧ blocks t = endedBlocks s h.port k x.entry id) ∧
    ∀ c : Conn, s.sessions[h.port].phase = .closing c → lastInHand s h.port k →
      Completes (.release h handle n) s fun t =>
        Responded s t h 0x22#8 .ok [] (some h.number) ∧ InPhase s t h.port .closed ∧ Settled t ∧
        blocks t = { endedBlocks s h.port k x.entry id with
          latched := (s.attention.map fun a => a.latched).set h.port unlatched }

/-- R71, R76, R147: a RETURN that passes the test of R69 puts the entry back at its place by sequence in OPEN, its
redelivery count unchanged; in CLOSING it discards and counts it, and the last one closes the session. -/
def Obligations.ReturnGivesTheEntryBack : Prop :=
  ∀ (h : Head) (s : State) (handle : Byte) (k : Handle) (n : Seq) (x : HandEntry),
    Fresh s h 0x23#8 → handle.toNat = k.val → s.queues[h.port].hand[k] = some x → x.entry.sequence = n →
    let counted (q : Queue) : Queue := { q with discard := raised q.discard 1 }
    (∀ c : Conn, s.sessions[h.port].phase = .opened c →
      Completes (.giveBack h handle n) s fun t =>
        Executed s t h 0x23#8 .ok [0#8] ∧
        ∃ q' : Queue, queueTakesBack s.queues[h.port] q' k x.entry ∧
          blocks t = { blocks s with queues := s.queues.set h.port q' }) ∧
    (∀ c : Conn, s.sessions[h.port].phase = .closing c → ¬lastInHand s h.port k →
      Completes (.giveBack h handle n) s fun t =>
        Executed s t h 0x23#8 .ok [1#8] ∧ blocks t = endedBlocks s h.port k x.entry counted) ∧
    ∀ c : Conn, s.sessions[h.port].phase = .closing c → lastInHand s h.port k →
      Completes (.giveBack h handle n) s fun t =>
        Responded s t h 0x23#8 .ok [1#8] (some h.number) ∧ InPhase s t h.port .closed ∧ Settled t ∧
        blocks t = { endedBlocks s h.port k x.entry counted with
          latched := (s.attention.map fun a => a.latched).set h.port unlatched }

/-- R72: a RENEW that passes the test of R69 restarts the lease now with the port's lease time, and changes nothing
else of the entry; in CLOSING it is refused with CLOSING and changes nothing. -/
def Obligations.RenewRestartsTheLease : Prop :=
  ∀ (h : Head) (s : State) (c : Conn) (handle : Byte) (n : Seq), Fresh s h 0x24#8 →
    (∀ (k : Handle) (x : HandEntry), s.sessions[h.port].phase = .opened c → handle.toNat = k.val →
      s.queues[h.port].hand[k] = some x → x.entry.sequence = n →
      Completes (.renew h handle n) s fun t =>
        Executed s t h 0x24#8 .ok [] ∧
        blocks t = { blocks s with
          queues := s.queues.set h.port { s.queues[h.port] with
            hand := s.queues[h.port].hand.set k
              (some { entry := x.entry, lease := timer s.timeBase c.lease }) } }) ∧
    (s.sessions[h.port].phase = .closing c →
      Completes (.renew h handle n) s fun t => Unchanged s t h 0x24#8 .closing [])

/-- R74, R75, R147: a lease expiry frees the position and counts an expiry. In OPEN the redelivery count rises; below
the limit the entry goes back to its place by sequence, at the limit it is discarded, counted and DISCARDED latched. In
CLOSING it is discarded whatever its redelivery count, counted, DISCARDED latched, and where it was the last one the
session closes and the latched reasons are cleared. It is taken only where the position's timer is
due (the due mark is the model's, log entry 7). -/
def Obligations.LeaseExpiryRedeliversOrDiscards : Prop :=
  ∀ (p : Port) (k : Handle) (s : State) (x : HandEntry), s.resetN = true → s.queues[p].hand[k] = some x →
    (x.lease.due = false → exec (.leaseExpiry p k) s = .next s) ∧
    (x.lease.due = true → ∀ c : Conn, s.sessions[p].phase = .opened c →
      let q : Queue := { s.queues[p] with expiry := raised s.queues[p].expiry 1 }
      let e : Entry := { x.entry with redelivery := x.entry.redelivery + 1 }
      (e.redelivery < c.redelivery →
        Completes (.leaseExpiry p k) s fun t =>
          t.links = s.links ∧ t.sessions = s.sessions ∧ Settled t ∧
          ∃ q' : Queue, queueTakesBack q q' k e ∧ blocks t = { blocks s with queues := s.queues.set p q' }) ∧
      (e.redelivery = c.redelivery →
        Completes (.leaseExpiry p k) s fun t =>
          t.links = s.links ∧ t.sessions = s.sessions ∧ Settled t ∧
          blocks t = { blocks s with
            pool := poolLess s.pool e
            queues := s.queues.set p
              { q with hand := q.hand.set k none, discard := raised q.discard 1 }
            latched := (s.attention.map fun a => a.latched).set p
              { s.attention[p].latched with discarded := true } })) ∧
    (x.lease.due = true → ∀ c : Conn, s.sessions[p].phase = .closing c →
      let count (q : Queue) : Queue := { q with expiry := raised q.expiry 1, discard := raised q.discard 1 }
      (¬lastInHand s p k →
        Completes (.leaseExpiry p k) s fun t =>
          t.links = s.links ∧ t.sessions = s.sessions ∧ Settled t ∧
          blocks t = { endedBlocks s p k x.entry count with
            latched := (s.attention.map fun a => a.latched).set p
              { s.attention[p].latched with discarded := true } }) ∧
      (lastInHand s p k →
        Completes (.leaseExpiry p k) s fun t =>
          t.links = s.links ∧ InPhase s t p .closed ∧ Settled t ∧
          blocks t = { endedBlocks s p k x.entry count with
            latched := (s.attention.map fun a => a.latched).set p unlatched }))

/-! ### Boards and pulls -/

/-- R92: an accepted READ_BOARD returns the board's value with the requester's unread flag and overwrite count, and
clears that port's mark and count and nothing else. -/
def Obligations.ReadBoardReturnsAndClearsTheMark : Prop :=
  ∀ (h : Head) (s : State) (c : Conn) (board : Byte) (b : BoardIx) (slot : SlotIx) (m : Message),
    Fresh s h 0x30#8 → s.sessions[h.port].phase = .opened c → board.toNat = b.val →
    s.table.boards[b].enabled = true → s.boards[b].held = some slot → s.pool.slots[slot] = .live m →
    Completes (.readBoard h board) s fun t =>
      Executed s t h 0x30#8 .ok
        (record board slot s.boards[b].lastSequence (if s.boards[b].unread[h.port] then 1#8 else 0#8)
            s.boards[b].overwrites[h.port] m ++ m.payload.toList.take m.length.val) ∧
      blocks t = { blocks s with
        boards := s.boards.set b { s.boards[b] with
          unread := s.boards[b].unread.set h.port false
          overwrites := s.boards[b].overwrites.set h.port 0#8 } }

/-- R104: a PULL that meets none of the eight conditions appends a PENDING entry whose deadline is drawn from the
board's pull timeout, and reports board, supplier and timeout. -/
def Obligations.PullAppendsAPendingEntry : Prop :=
  ∀ (h : Head) (s : State) (c : Conn) (board : Byte) (b : BoardIx) (supplier : Port),
    Fresh s h 0x31#8 → s.sessions[h.port].phase = .opened c → board.toNat = b.val →
    s.table.boards[b].enabled = true → s.table.boards[b].supplier = some supplier → supplier ≠ h.port →
    openAt s supplier = true → ¬pulling s h.port b → (∀ o, ¬uncollected s h.port b o) →
    pullsOf s h.port < 4 → s.pulls.length < 12 →
    Completes (.pull h board) s fun t =>
      Executed s t h 0x31#8 .ok
        ([board, BitVec.ofNat 8 supplier.val] ++ le 2 s.table.boards[b].pullTimeout.toNat) ∧
      blocks t = { blocks s with
        pulls := s.pulls ++
          [{ requester := h.port
             board := b
             state := .waiting (timer s.timeBase s.table.boards[b].pullTimeout) }] }

/-- R113, R114: CANCEL_PULL removes the requester's PENDING entry and COLLECT its DONE entry, whose outcome and
satisfying sequence it returns; the other entries keep their order. -/
def Obligations.CancelAndCollectRemoveOneEntry : Prop :=
  ∀ (h : Head) (s : State) (c : Conn) (board : Byte) (b : BoardIx) (e : Pull) (before after : List Pull),
    s.sessions[h.port].phase = .opened c → board.toNat = b.val → s.pulls = before ++ e :: after →
    e.requester = h.port → e.board = b →
    (∀ x ∈ before ++ after, ¬(x.requester = h.port ∧ x.board = b)) →
    (∀ x : Timer, e.state = .waiting x → Fresh s h 0x32#8 →
      Completes (.cancelPull h board) s fun t =>
        Executed s t h 0x32#8 .ok [] ∧ blocks t = { blocks s with pulls := before ++ after }) ∧
    ∀ o : PullOutcome, e.state = .done o → Fresh s h 0x33#8 →
      Completes (.collect h board) s fun t =>
        Executed s t h 0x33#8 .ok (board :: outcomeBytes o) ∧ blocks t = { blocks s with pulls := before ++ after }

/-- R107: the expiry of a PENDING entry whose timer is due ends it EXPIRED at its place in the list; no board, no
mark and no other entry changes; an entry not due, or not PENDING, is not touched (the due mark is the model's,
log entry 7). -/
def Obligations.PullExpiryEndsTheEntry : Prop :=
  ∀ (p : Port) (b : BoardIx) (s : State), s.resetN = true →
    (∀ (e : Pull) (before after : List Pull) (x : Timer), s.pulls = before ++ e :: after → e.requester = p →
      e.board = b → e.state = .waiting x → x.due = true →
      (∀ y ∈ before ++ after, ¬(y.requester = p ∧ y.board = b)) →
      Completes (.pullExpiry p b) s fun t =>
        t.links = s.links ∧ t.sessions = s.sessions ∧ Settled t ∧
        blocks t = { blocks s with pulls := before ++ { e with state := .done .expired } :: after }) ∧
    ((∀ e ∈ s.pulls, e.requester = p → e.board = b → ∀ x, e.state = .waiting x → x.due = false) →
      exec (.pullExpiry p b) s = .next s)

/-- R91, R104, R113, R114: what the Board Table and the Pull Unit refuse, in the order of their conditions; nothing
changes. -/
def Obligations.BoardAndPullRefusals : Prop :=
  ∀ (h : Head) (s : State) (c : Conn) (board : Byte) (b : BoardIx), s.sessions[h.port].phase = .opened c →
    board.toNat = b.val →
    let d := s.table.boards[b]
    (Fresh s h 0x30#8 →
      (d.enabled = false →
        Completes (.readBoard h board) s fun t => Unchanged s t h 0x30#8 .boardDisabled []) ∧
      (d.enabled = true → s.boards[b].held = none →
        Completes (.readBoard h board) s fun t => Unchanged s t h 0x30#8 .boardEmpty [])) ∧
    (Fresh s h 0x31#8 →
      let refused (o : OutcomeCode) : Prop :=
        Completes (.pull h board) s fun t => Unchanged s t h 0x31#8 o []
      (d.enabled = false → refused .boardDisabled) ∧
      (d.enabled = true → d.supplier = none → refused .noSupplier) ∧
      (d.enabled = true → d.supplier = some h.port → refused .selfSupplier) ∧
      ∀ q : Port, d.enabled = true → d.supplier = some q → q ≠ h.port →
        (openAt s q = false → refused .supplierAbsent) ∧
        (openAt s q = true → pulling s h.port b → refused .alreadyPending) ∧
        (openAt s q = true → ¬pulling s h.port b →
          ((∃ o, uncollected s h.port b o) → refused .uncollected) ∧
          ((∀ o, ¬uncollected s h.port b o) → 4 ≤ pullsOf s h.port → refused .pullLimit) ∧
          ((∀ o, ¬uncollected s h.port b o) → pullsOf s h.port < 4 → 12 ≤ s.pulls.length →
            refused .pullListFull))) ∧
    (Fresh s h 0x32#8 → ¬pulling s h.port b →
      Completes (.cancelPull h board) s fun t => Unchanged s t h 0x32#8 .noSuchPull []) ∧
    (Fresh s h 0x33#8 → (∀ o, ¬uncollected s h.port b o) →
      Completes (.collect h board) s fun t => Unchanged s t h 0x33#8 .noSuchPull [])

/-! ### The claim, the shadow and the commit -/

/-- R120: CLAIM takes a free claim with a shadow copied from the active table, restarts the deadline of the
requester's own claim keeping its shadow, and is refused with CLAIM_HELD, naming the holder, when another port's. -/
def Obligations.ClaimTakesOrRestartsOrIsRefused : Prop :=
  ∀ (h : Head) (s : State) (c : Conn), Fresh s h 0x40#8 → s.sessions[h.port].phase = .opened c →
    let content := [BitVec.ofNat 8 h.port.val] ++ le 2 s.generation.toNat
    (s.claim = none →
      Completes (.claim h) s fun t =>
        Executed s t h 0x40#8 .ok content ∧
        blocks t = { blocks s with
          claim := some { holder := h.port, shadow := s.table, timer := timer s.timeBase 2000#16 } }) ∧
    ∀ x : Claim, s.claim = some x →
      (x.holder = h.port →
        Completes (.claim h) s fun t =>
          Executed s t h 0x40#8 .ok content ∧
          blocks t = { blocks s with claim := some { x with timer := timer s.timeBase 2000#16 } }) ∧
      (x.holder ≠ h.port →
        Completes (.claim h) s fun t => Unchanged s t h 0x40#8 .claimHeld [BitVec.ofNat 8 x.holder.val])

/-- R22, R122: the holder's EDIT_RULE, CLEAR_RULE and EDIT_BOARD replace one entry of the shadow whole, restart the
claim deadline and change nothing else. -/
def Obligations.EditsReplaceOneShadowEntry : Prop :=
  ∀ (h : Head) (s : State) (c : Conn) (x : Claim) (index : Byte), s.sessions[h.port].phase = .opened c →
    s.claim = some x → x.holder = h.port →
    let edited (shadow : Table) : Option Claim :=
      some { x with shadow := shadow, timer := timer s.timeBase 2000#16 }
    (∀ (i : RuleIx) (image : RuleImage), index.toNat = i.val → Fresh s h 0x41#8 →
      ¬outOfRange (.editRule h index image) →
      Completes (.editRule h index image) s fun t =>
        Executed s t h 0x41#8 .ok [] ∧
        ∃ r : Rule,
          r.valid = image.flags.getLsbD 0 ∧ r.echo = image.flags.getLsbD 1 ∧
          r.rewrite = (if image.flags.getLsbD 2 then some image.rewrite else none) ∧
          r.tag = image.tag ∧ r.mask = image.mask ∧
          (∀ q : Port, r.source[q] = image.source.getLsbD q) ∧ (∀ q : Port, r.dest[q] = image.dest.getLsbD q) ∧
          (image.cls = 0#8 → ∃ l f, r.cls = .queued l f ∧ laneCode l = image.lane ∧ policyCode f = image.policy) ∧
          (image.cls = 1#8 → ∃ b : BoardIx, r.cls = .board b ∧ b.val = image.board.toNat) ∧
          blocks t = { blocks s with
            claim := edited { x.shadow with rules := x.shadow.rules.set i r } }) ∧
    (∀ i : RuleIx, index.toNat = i.val → Fresh s h 0x42#8 →
      Completes (.clearRule h index) s fun t =>
        let cleared : Rule :=
          { valid := false
            tag := 0#16
            mask := 0#16
            source := Vector.replicate 4 false
            cls := .queued .normal .refuse
            dest := Vector.replicate 4 false
            echo := false
            rewrite := none }
        Executed s t h 0x42#8 .ok [] ∧
        blocks t = { blocks s with claim := edited { x.shadow with rules := x.shadow.rules.set i cleared } }) ∧
    ∀ (b : BoardIx) (image : BoardImage), index.toNat = b.val → Fresh s h 0x43#8 →
      ¬outOfRange (.editBoard h index image) →
      Completes (.editBoard h index image) s fun t =>
        Executed s t h 0x43#8 .ok [] ∧
        ∃ d : BoardDef,
          d.enabled = image.flags.getLsbD 0 ∧ d.pullTimeout = image.pullTimeout ∧
          (image.supplier = 0xFF#8 → d.supplier = none) ∧
          (∀ q : Port, image.supplier.toNat = q.val → d.supplier = some q) ∧
          blocks t = { blocks s with
            claim := edited { x.shadow with boards := x.shadow.boards.set b d } }

/-- R36, R123: READ_RULE and READ_BOARDDEF return index, selector, the generation of the active table and the entry
of the table selected: the active one to any OPEN port, the shadow to the holder. No block changes. -/
def Obligations.TableReadsChangeNothing : Prop :=
  ∀ (h : Head) (s : State) (c : Conn) (index selector : Byte) (table : Table),
    s.sessions[h.port].phase = .opened c →
    ((selector = 0#8 ∧ table = s.table) ∨
      ∃ x : Claim, selector = 1#8 ∧ s.claim = some x ∧ x.holder = h.port ∧ table = x.shadow) →
    (∀ i : RuleIx, index.toNat = i.val → Fresh s h 0x44#8 →
      Completes (.readRule h index selector) s fun t =>
        Unchanged s t h 0x44#8 .ok
          ([index, selector] ++ le 2 s.generation.toNat ++ ruleBytes table.rules[i])) ∧
    ∀ b : BoardIx, index.toNat = b.val → Fresh s h 0x45#8 →
      Completes (.readBoarddef h index selector) s fun t =>
        Unchanged s t h 0x45#8 .ok
          ([index, selector] ++ le 2 s.generation.toNat ++
            ([if table.boards[b].enabled then 1#8 else 0#8,
              match table.boards[b].supplier with
              | some q => BitVec.ofNat 8 q.val
              | none => 0xFF#8] ++ le 2 table.boards[b].pullTimeout.toNat))

/-- R124: the holder's DROP_CLAIM frees the claim with its shadow and latches nothing; from another port it is
refused with NOT_HOLDER and changes nothing. -/
def Obligations.DropClaimFreesTheClaim : Prop :=
  ∀ (h : Head) (s : State) (c : Conn), Fresh s h 0x47#8 → s.sessions[h.port].phase = .opened c →
    (∀ x : Claim, s.claim = some x → x.holder = h.port →
      Completes (.dropClaim h) s fun t =>
        Executed s t h 0x47#8 .ok [] ∧ blocks t = { blocks s with claim := none }) ∧
    ((∀ x : Claim, s.claim = some x → x.holder ≠ h.port) →
      Completes (.dropClaim h) s fun t => Unchanged s t h 0x47#8 .notHolder [])

/-- R128 (with R95 and R109): a COMMIT from the holder whose shadow has no failing rule puts the shadow in force, raises
the generation, frees the claim, withdraws boards, ends pulls and latches TABLE_CHANGED, in one event. -/
def Obligations.CommitPutsTheShadowInForce : Prop :=
  ∀ (h : Head) (s : State) (c : Conn) (x : Claim), Fresh s h 0x46#8 → s.sessions[h.port].phase = .opened c →
    s.claim = some x → x.holder = h.port →
    (∀ i : RuleIx, invalidity x.shadow x.shadow.rules[i] = none) →
    Completes (.commit h) s fun t =>
      Executed s t h 0x46#8 .ok (le 2 (s.generation + 1#16).toNat) ∧ blocks t = committed s h.port x.shadow

/-- R122, R123, R127: NOT_HOLDER for every edit, shadow read and COMMIT of a port that does not hold the claim, and TABLE_INVALID with the lowest failing rule and its reason; no block changes. -/
def Obligations.ClaimUnitRefusals : Prop :=
  ∀ (h : Head) (s : State) (c : Conn), s.sessions[h.port].phase = .opened c →
    ((∀ x : Claim, s.claim = some x → x.holder ≠ h.port) →
      ∀ (i : Instr) (r : Request), i.request? = some r → r.head = h → Fresh s h r.code → ¬outOfRange i →
        (match i with
          | .editRule _ _ _ => True
          | .clearRule _ _ => True
          | .editBoard _ _ _ => True
          | .readRule _ _ selector => selector = 1#8
          | .readBoarddef _ _ selector => selector = 1#8
          | .commit _ => True
          | _ => False) →
        Completes i s fun t => Unchanged s t h r.code .notHolder []) ∧
    ∀ (x : Claim) (i : RuleIx) (reason : Byte), s.claim = some x → x.holder = h.port → Fresh s h 0x46#8 →
      invalidity x.shadow x.shadow.rules[i] = some reason →
      (∀ j : RuleIx, j < i → invalidity x.shadow x.shadow.rules[j] = none) →
      Completes (.commit h) s fun t => Unchanged s t h 0x46#8 .tableInvalid [BitVec.ofNat 8 i.val, reason]

/-- R125: the lapse frees the claim with its shadow and latches CLAIM_LAPSED at the former holder, and changes nothing
else; it is taken only while the claim is held and its timer is due (the due mark is the model's, log entry 7). -/
def Obligations.ClaimLapseFreesAndLatches : Prop :=
  ∀ s : State, s.resetN = true →
    (∀ x : Claim, s.claim = some x → x.timer.due = true →
      Completes .claimLapse s fun t =>
        t.links = s.links ∧ t.sessions = s.sessions ∧ Settled t ∧
        blocks t = { blocks s with
          claim := none
          latched := (s.attention.map fun a => a.latched).set x.holder
            { s.attention[x.holder].latched with claimLapsed := true } }) ∧
    ((∀ x : Claim, s.claim = some x → x.timer.due = false) → exec .claimLapse s = .next s)

/-! ### Attention and reporting -/

/-- R181, R182: STATUS is taken in every session state and reports the port's session, top reason, pending set, mask,
lanes, hand, compositions, unread and wanted boards, the generation, the holder, the free slot count and the DONE
pulls; it changes no block. -/
def Obligations.StatusReportsThePicture : Prop :=
  ∀ (h : Head) (s : State) (top : Nat), Fresh s h 0x50#8 → topReasonIs s h.port top →
    Completes (.status h) s fun t =>
      Unchanged s t h 0x50#8 .ok
        ([match s.sessions[h.port].phase with
            | .closed => 0#8
            | .opened _ => 1#8
            | .closing _ => 2#8
            | .fenced => 3#8,
            s.sessions[h.port].epoch, BitVec.ofNat 8 top] ++
          le 2 (bitsValue (pendingReasons s h.port)) ++ le 2 s.attention[h.port].mask.toNat ++
          [BitVec.ofNat 8 s.queues[h.port].urgent.length, BitVec.ofNat 8 s.queues[h.port].normal.length,
            BitVec.ofNat 8 (handSize s.queues[h.port]), BitVec.ofNat 8 (composingOf s h.port)] ++
          le 4 (bitsValue ((List.finRange 32).map fun b => s.boards[b].unread[h.port])) ++
          le 4 (bitsValue ((List.finRange 32).map fun b => s.wanted[h.port][b])) ++
          le 2 s.generation.toNat ++
          [match s.claim with
            | some x => BitVec.ofNat 8 x.holder.val
            | none => 0xFF#8] ++
          le 2 s.pool.freeList.length ++
          [BitVec.ofNat 8 (donePairs s h.port).length] ++ (donePairs s h.port).flatten)

/-- R183, R185: ACK_REASONS clears the latched reasons it names and no other, and SET_ATTENTION sets the mask with the
FENCED position 0; in OPEN and in CLOSING; nothing else changes, and the line follows. -/
def Obligations.AcknowledgeAndMask : Prop :=
  ∀ (h : Head) (s : State) (r : Half), (connOf s.sessions[h.port].phase).isSome = true →
    (∀ k, 10 ≤ k → k ≤ 15 → r.getLsbD k = false) →
    (Fresh s h 0x51#8 →
      Completes (.ackReasons h r) s fun t =>
        Executed s t h 0x51#8 .ok [] ∧
        blocks t = { blocks s with
          latched := (s.attention.map fun a => a.latched).set h.port
            { claimLapsed := s.attention[h.port].latched.claimLapsed && !r.getLsbD 1
              discarded := s.attention[h.port].latched.discarded && !r.getLsbD 2
              overflow := s.attention[h.port].latched.overflow && !r.getLsbD 3
              tableChanged := s.attention[h.port].latched.tableChanged && !r.getLsbD 4 } }) ∧
    (Fresh s h 0x52#8 →
      Completes (.setAttention h r) s fun t =>
        Executed s t h 0x52#8 .ok [] ∧
        ∃ m : Half, m.getLsbD 0 = false ∧ (∀ k, 1 ≤ k → m.getLsbD k = r.getLsbD k) ∧
          blocks t = { blocks s with mask := (s.attention.map fun a => a.mask).set h.port m })

/-- R133, R186: STATS reports the eight counters as they stood, clears the port's six when asked, and the two hub
counters when asked by the holder; asked by another port it leaves them and answers NOT_HOLDER. -/
def Obligations.StatsReportsThenClears : Prop :=
  ∀ (h : Head) (s : State) (clearPort clearHub : Bool), Fresh s h 0x53#8 →
    s.sessions[h.port].phase ≠ .fenced →
    let p := h.port
    let q := s.queues[p]
    let l := s.links[p]
    let content := [q.overflow, q.discard, q.expiry, l.crcErrors, l.truncated, l.duplicates, s.undelivered,
      s.pool.poolEmpty].flatMap fun x => le 2 x.toNat
    let mayClear : Prop := clearHub = true ∧ ∃ x : Claim, s.claim = some x ∧ x.holder = p
    let denied : Prop := clearHub = true ∧ ∀ x : Claim, s.claim = some x → x.holder ≠ p
    let byte (b : Bool) : Byte := if b then 1#8 else 0#8
    Completes (.stats h (byte clearPort) (byte clearHub)) s fun t =>
      InPhase s t p (heardPhase s p) ∧ Settled t ∧
      (∃ o : OutcomeCode, (denied → o = .notHolder) ∧ (¬denied → o = .ok) ∧
        let r : Response :=
          { command := 0x53#8
            session := stateOf t.sessions[p].phase
            number := h.number
            outcome := o
            epoch := t.sessions[p].epoch
            content := content }
        let l' : Link := { l with held := r, lastExecuted := r, lastNumber := some h.number }
        t.links = s.links.set p
          (if clearPort then { l' with crcErrors := 0#16, truncated := 0#16, duplicates := 0#16 } else l')) ∧
      ∃ undelivered poolEmpty : Half,
        (mayClear → undelivered = 0#16 ∧ poolEmpty = 0#16) ∧
        (¬mayClear → undelivered = s.undelivered ∧ poolEmpty = s.pool.poolEmpty) ∧
        blocks t = { blocks s with
          undelivered := undelivered
          pool := { s.pool with poolEmpty := poolEmpty }
          queues := s.queues.set p
            (if clearPort then { q with overflow := 0#16, discard := 0#16, expiry := 0#16 } else q) }

/-! ### The reset pin and time -/

/-- R152, R154, R173, R180: RESET_N low stops the time base at 0 and releases every line; its release puts every block
in its pin-reset state, whatever the state before, with the queue of waiting commands as it was. -/
def Obligations.PinResetRestoresEveryBlock : Prop :=
  ∀ s : State,
    exec .resetNAssert s = .next { s with
      resetN := false
      timeBase := 0#32
      tickPhase := 0
      attention := s.attention.map fun a => { a with line := false } } ∧
    Completes .resetNRelease s fun t =>
      t.resetN = true ∧ t.timeBase = 0#32 ∧ t.tickPhase = 0 ∧
      (∀ i : SlotIx, t.pool.slots[i] = .free) ∧ t.pool.freeList = List.finRange 256 ∧ t.pool.poolEmpty = 0#16 ∧
      (∀ i : RuleIx, t.table.rules[i] = clearedRule) ∧
      (∀ b : BoardIx, t.table.boards[b] = { enabled := false, supplier := none, pullTimeout := 1000#16 }) ∧
      t.generation = 0#16 ∧ t.sequence = .next 1#48 ∧ t.undelivered = 0#16 ∧ t.claim = none ∧ t.pulls = [] ∧
      (∀ b : BoardIx, t.boards[b].held = none ∧ t.boards[b].lastSequence = 0#48 ∧
        ∀ p : Port, t.boards[b].unread[p] = false ∧ t.boards[b].overwrites[p] = 0#8) ∧
      (∀ (p : Port) (b : BoardIx), t.wanted[p][b] = false) ∧
      (∀ p : Port, t.queues[p] =
        { urgent := [], normal := [], hand := Vector.replicate 4 none, overflow := 0#16, discard := 0#16,
          expiry := 0#16 }) ∧
      (∀ p : Port, t.sessions[p] = { phase := .closed, epoch := 0#8 }) ∧
      (∀ p : Port, t.attention[p].latched = unlatched ∧ t.attention[p].mask = 0#16 ∧
        t.attention[p].line = false) ∧
      (∀ p : Port, t.links[p].lastNumber = none ∧ t.links[p].lastExecuted = t.links[p].held ∧
        t.links[p].held =
          { command := 0#8, session := .closed, number := 0#4, outcome := .nothingHeld, epoch := 0#8, content := [] } ∧
        t.links[p].crcErrors = 0#16 ∧ t.links[p].truncated = 0#16 ∧ t.links[p].duplicates = 0#16) ∧
      t.pending = s.pending ∧ t.pulses = s.pulses

/-- R174: a RESET_N pulse shorter than 10 µs acts as a full pin reset or leaves the hub's state as it was, and never
resets part of it. The count of such pulses, which the free value of log entry 6 takes, is the model's own. -/
def Obligations.ShortPulseResetsAllOrNothing : Prop :=
  ∀ s : State, ∃ t : State, exec .resetNShortPulse s = .next t ∧
    (t = { s with pulses := s.pulses + 1 } ∨
      exec .resetNRelease { s with pulses := s.pulses + 1 } = .next t)

/-- R154, R155: a microsecond advances the time base by one, wrapping; at every 1000th since the release every timer is
examined against its elapsed time; a tick changes no state itself; nothing else changes. That the tick is
part of the advance and leaves a due mark is the model's (log entry 7). -/
def Obligations.MicrosecondAdvancesTheTimeBase : Prop :=
  (∀ s : State, exec .tick s = .next s) ∧
  ∀ s : State, s.resetN = true →
    let now := s.timeBase + 1#32
    (s.tickPhase ≠ 999 → exec .timeBaseAdvance s =
      .next { s with timeBase := now, tickPhase := s.tickPhase + 1 }) ∧
    (s.tickPhase = 999 → exec .timeBaseAdvance s =
      .next { s with
        timeBase := now
        tickPhase := 0
        queues := s.queues.map fun q =>
          { q with hand := q.hand.map fun o => o.map fun x => { x with lease := examined now x.lease } }
        pulls := s.pulls.map fun e =>
          match e.state with
          | .waiting x => { e with state := .waiting (examined now x) }
          | .done _ => e
        sessions := s.sessions.map fun x =>
          { x with
            phase := match x.phase with
              | .opened c => .opened { c with silence := c.silence.map (examined now) }
              | .closing c => .closing { c with silence := c.silence.map (examined now) }
              | .closed => .closed
              | .fenced => .fenced }
        claim := s.claim.map fun c => { c with timer := examined now c.timer } })

/-- A lease set now for d ms is due after n microseconds exactly when some tick among them came d ms or more after it
was set: it falls due at the first tick at or after d ms (R156), across a wrap of the time base too. That the tick is
inside TIME_BASE_ADVANCE and that the due mark, once set, is kept until the expiry is taken is the model's, deduced
from R156 and R158 (log entry 7). -/
def Obligations.LeaseFallsDueAtItsFirstTick : Prop :=
  ∀ (s : State) (p : Port) (k : Handle) (e : Entry) (d : Half) (n : Nat),
    s.resetN = true → s.queues[p].hand[k] = some { entry := e, lease := timer s.timeBase d } → d ≠ 0#16 →
    n < 2 ^ 32 →
    ∃ x : Timer, (afterMicroseconds n s).queues[p].hand[k] = some { entry := e, lease := x } ∧
      (x.due = true ↔ ∃ m, 1 ≤ m ∧ m ≤ n ∧ (s.tickPhase.val + m) % 1000 = 0 ∧ d.toNat * 1000 ≤ m)

/-! ### What every step keeps -/

/-- R2: whatever the state, if its free list holds exactly the FREE slots, each once, so does the next one's. -/
def Obligations.FreeListHoldsExactlyTheFreeSlots : Prop :=
  ∀ s t : State, freeListExact s → step s = .next t → freeListExact t

/-- R102, R154, R180: the wanted sets and the attention lines agree with the rest of the state at every moment, and
RESET_N low holds the time base at 0 and the lines released. -/
def Obligations.WantedSetsAndLinesFollowTheState : Prop :=
  ∀ s t : State, Settled s → heldInReset s → step s = .next t → Settled t ∧ heldInReset t

/-- R129: every valid rule of the active table has a source and every valid BOARD rule names an enabled board. -/
def Obligations.ActiveTableStaysLawful : Prop :=
  ∀ s t : State, tableLawful s.table → step s = .next t → tableLawful t.table

/-- R62: the lanes stay in strictly increasing order of sequence, and no port holds a sequence twice. -/
def Obligations.LanesStayInSequenceOrder : Prop :=
  ∀ s t : State, lanesOrdered s → step s = .next t → lanesOrdered t

/-- R151 (with R118 and the first part of R11): a port whose session is not OPEN holds nothing but, in CLOSING, a hand
that is not empty; the claim holder and every owner of a COMPOSING slot is an OPEN port. -/
def Obligations.ClosedPortsHoldNothing : Prop :=
  ∀ s t : State, closedHoldsNothing s ∧ holderOpen s ∧ composersOpen s → step s = .next t →
    closedHoldsNothing t ∧ holderOpen t ∧ composersOpen t

/-- R11, R63, R74, R135: the parameters in force stay in range and bound the occupancy, the COMPOSING slots and the
redelivery counts of their port. -/
def Obligations.SessionLimitsAreKept : Prop :=
  ∀ s t : State, closedHoldsNothing s →
    paramsLegal s ∧ occupancyBounded s ∧ composingBounded s ∧ redeliveryBelowLimit s → step s = .next t →
    paramsLegal t ∧ occupancyBounded t ∧ composingBounded t ∧ redeliveryBelowLimit t

/-- R101: the pull list keeps its bounds and its uniqueness, and every PENDING entry names an enabled board whose
supplier is an OPEN port other than the requester. -/
def Obligations.PullListKeepsItsBounds : Prop :=
  ∀ s t : State, pullsBounded s ∧ pullsSupplied s → step s = .next t → pullsBounded t ∧ pullsSupplied t

/-- R87: the fields of every board record keep their relations, among them that a disabled board holds no slot. -/
def Obligations.BoardRecordsStayConsistent : Prop :=
  ∀ s t : State, tableLawful s.table → counterLegal s.sequence → boardsConsistent s → step s = .next t →
    boardsConsistent t

/-- R177, R179: the FENCED position of every mask stays 0, every latched flag is clear at a CLOSED or FENCED port, and
only DISCARDED is latched at a CLOSING one. -/
def Obligations.MasksAndFlagsStayLegal : Prop :=
  ∀ s t : State, holderOpen s → masksLegal s ∧ latchesLegal s → step s = .next t → masksLegal t ∧ latchesLegal t

/-- R13: every LIVE slot has as many references as queue and hand entries name it, at most one a port, or is held by
exactly one board with reference count 1, and nothing names a slot that is not LIVE. That the free list holds the FREE
slots only (R2) rules out a RESERVE of a slot that something names. -/
def Obligations.ReferencesCountTheHolders : Prop :=
  ∀ s t : State, freeListExact s → referencesExact s → step s = .next t → referencesExact t

/-- R44: no two LIVE slots carry the same sequence, and every one was given before the next. -/
def Obligations.SequencesAreGivenOnce : Prop :=
  ∀ s t : State, sequencesUnique s → step s = .next t → sequencesUnique t

/-- The state after the release of RESET_N meets every promise the manual makes of a moment. -/
def Obligations.ResetStateIsLawful : Prop := Lawful State.reset
end

