-- ==== Sys2Proof/Laws/Answers.lean ====
section
/-! SUPPORT. Every command answers a next state: the part has no fault and no refusal. -/

namespace Sys2Proof.Laws

open Sys2Proof.Machine

/-- Whatever the command and the state, there is a next state (R166, R170). -/
theorem exec_next (c : Instr) (s : State) : ∃ t, exec c s = .next t := by
  cases c <;> exact ⟨_, rfl⟩

/-- Whatever the state, the step answers a next state. -/
theorem step_next (s : State) : ∃ t, step s = .next t := by
  unfold step
  split
  · exact ⟨_, rfl⟩
  · exact exec_next _ _

end Sys2Proof.Laws
end

