-- ==== Sys2Proof/Laws/State.lean ====
section
/-! SUPPORT. One lemma per field per update of the state, each true by rfl: later proofs unfold no record update. The
laws of the lines and the wanted sets after settling are not simp lemmas: Laws/Attention.lean has simpler ones. -/

namespace Sys2Proof.Machine

/-! ### setQueue -/

@[simp] theorem State.setQueue_pending (s : State) (p : Port) (q : Queue) :
    (s.setQueue p q).pending = s.pending := rfl
@[simp] theorem State.setQueue_resetN (s : State) (p : Port) (q : Queue) : (s.setQueue p q).resetN = s.resetN := rfl
@[simp] theorem State.setQueue_timeBase (s : State) (p : Port) (q : Queue) :
    (s.setQueue p q).timeBase = s.timeBase := rfl
@[simp] theorem State.setQueue_tickPhase (s : State) (p : Port) (q : Queue) :
    (s.setQueue p q).tickPhase = s.tickPhase := rfl
@[simp] theorem State.setQueue_pool (s : State) (p : Port) (q : Queue) : (s.setQueue p q).pool = s.pool := rfl
@[simp] theorem State.setQueue_table (s : State) (p : Port) (q : Queue) : (s.setQueue p q).table = s.table := rfl
@[simp] theorem State.setQueue_generation (s : State) (p : Port) (q : Queue) :
    (s.setQueue p q).generation = s.generation := rfl
@[simp] theorem State.setQueue_sequence (s : State) (p : Port) (q : Queue) :
    (s.setQueue p q).sequence = s.sequence := rfl
@[simp] theorem State.setQueue_undelivered (s : State) (p : Port) (q : Queue) :
    (s.setQueue p q).undelivered = s.undelivered := rfl
@[simp] theorem State.setQueue_claim (s : State) (p : Port) (q : Queue) : (s.setQueue p q).claim = s.claim := rfl
@[simp] theorem State.setQueue_queues (s : State) (p : Port) (q : Queue) :
    (s.setQueue p q).queues = s.queues.set p q := rfl
@[simp] theorem State.setQueue_boards (s : State) (p : Port) (q : Queue) : (s.setQueue p q).boards = s.boards := rfl
@[simp] theorem State.setQueue_pulls (s : State) (p : Port) (q : Queue) : (s.setQueue p q).pulls = s.pulls := rfl
@[simp] theorem State.setQueue_wanted (s : State) (p : Port) (q : Queue) : (s.setQueue p q).wanted = s.wanted := rfl
@[simp] theorem State.setQueue_links (s : State) (p : Port) (q : Queue) : (s.setQueue p q).links = s.links := rfl
@[simp] theorem State.setQueue_sessions (s : State) (p : Port) (q : Queue) :
    (s.setQueue p q).sessions = s.sessions := rfl
@[simp] theorem State.setQueue_attention (s : State) (p : Port) (q : Queue) :
    (s.setQueue p q).attention = s.attention := rfl
@[simp] theorem State.setQueue_pulses (s : State) (p : Port) (q : Queue) : (s.setQueue p q).pulses = s.pulses := rfl

/-! ### setLink -/

@[simp] theorem State.setLink_pending (s : State) (p : Port) (l : Link) : (s.setLink p l).pending = s.pending := rfl
@[simp] theorem State.setLink_resetN (s : State) (p : Port) (l : Link) : (s.setLink p l).resetN = s.resetN := rfl
@[simp] theorem State.setLink_timeBase (s : State) (p : Port) (l : Link) :
    (s.setLink p l).timeBase = s.timeBase := rfl
@[simp] theorem State.setLink_tickPhase (s : State) (p : Port) (l : Link) :
    (s.setLink p l).tickPhase = s.tickPhase := rfl
@[simp] theorem State.setLink_pool (s : State) (p : Port) (l : Link) : (s.setLink p l).pool = s.pool := rfl
@[simp] theorem State.setLink_table (s : State) (p : Port) (l : Link) : (s.setLink p l).table = s.table := rfl
@[simp] theorem State.setLink_generation (s : State) (p : Port) (l : Link) :
    (s.setLink p l).generation = s.generation := rfl
@[simp] theorem State.setLink_sequence (s : State) (p : Port) (l : Link) :
    (s.setLink p l).sequence = s.sequence := rfl
@[simp] theorem State.setLink_undelivered (s : State) (p : Port) (l : Link) :
    (s.setLink p l).undelivered = s.undelivered := rfl
@[simp] theorem State.setLink_claim (s : State) (p : Port) (l : Link) : (s.setLink p l).claim = s.claim := rfl
@[simp] theorem State.setLink_queues (s : State) (p : Port) (l : Link) : (s.setLink p l).queues = s.queues := rfl
@[simp] theorem State.setLink_boards (s : State) (p : Port) (l : Link) : (s.setLink p l).boards = s.boards := rfl
@[simp] theorem State.setLink_pulls (s : State) (p : Port) (l : Link) : (s.setLink p l).pulls = s.pulls := rfl
@[simp] theorem State.setLink_wanted (s : State) (p : Port) (l : Link) : (s.setLink p l).wanted = s.wanted := rfl
@[simp] theorem State.setLink_links (s : State) (p : Port) (l : Link) : (s.setLink p l).links = s.links.set p l := rfl
@[simp] theorem State.setLink_sessions (s : State) (p : Port) (l : Link) :
    (s.setLink p l).sessions = s.sessions := rfl
@[simp] theorem State.setLink_attention (s : State) (p : Port) (l : Link) :
    (s.setLink p l).attention = s.attention := rfl
@[simp] theorem State.setLink_pulses (s : State) (p : Port) (l : Link) : (s.setLink p l).pulses = s.pulses := rfl

/-! ### setSession -/

@[simp] theorem State.setSession_pending (s : State) (p : Port) (x : Session) :
    (s.setSession p x).pending = s.pending := rfl
@[simp] theorem State.setSession_resetN (s : State) (p : Port) (x : Session) :
    (s.setSession p x).resetN = s.resetN := rfl
@[simp] theorem State.setSession_timeBase (s : State) (p : Port) (x : Session) :
    (s.setSession p x).timeBase = s.timeBase := rfl
@[simp] theorem State.setSession_tickPhase (s : State) (p : Port) (x : Session) :
    (s.setSession p x).tickPhase = s.tickPhase := rfl
@[simp] theorem State.setSession_pool (s : State) (p : Port) (x : Session) : (s.setSession p x).pool = s.pool := rfl
@[simp] theorem State.setSession_table (s : State) (p : Port) (x : Session) :
    (s.setSession p x).table = s.table := rfl
@[simp] theorem State.setSession_generation (s : State) (p : Port) (x : Session) :
    (s.setSession p x).generation = s.generation := rfl
@[simp] theorem State.setSession_sequence (s : State) (p : Port) (x : Session) :
    (s.setSession p x).sequence = s.sequence := rfl
@[simp] theorem State.setSession_undelivered (s : State) (p : Port) (x : Session) :
    (s.setSession p x).undelivered = s.undelivered := rfl
@[simp] theorem State.setSession_claim (s : State) (p : Port) (x : Session) :
    (s.setSession p x).claim = s.claim := rfl
@[simp] theorem State.setSession_queues (s : State) (p : Port) (x : Session) :
    (s.setSession p x).queues = s.queues := rfl
@[simp] theorem State.setSession_boards (s : State) (p : Port) (x : Session) :
    (s.setSession p x).boards = s.boards := rfl
@[simp] theorem State.setSession_pulls (s : State) (p : Port) (x : Session) :
    (s.setSession p x).pulls = s.pulls := rfl
@[simp] theorem State.setSession_wanted (s : State) (p : Port) (x : Session) :
    (s.setSession p x).wanted = s.wanted := rfl
@[simp] theorem State.setSession_links (s : State) (p : Port) (x : Session) :
    (s.setSession p x).links = s.links := rfl
@[simp] theorem State.setSession_sessions (s : State) (p : Port) (x : Session) :
    (s.setSession p x).sessions = s.sessions.set p x := rfl
@[simp] theorem State.setSession_attention (s : State) (p : Port) (x : Session) :
    (s.setSession p x).attention = s.attention := rfl
@[simp] theorem State.setSession_pulses (s : State) (p : Port) (x : Session) :
    (s.setSession p x).pulses = s.pulses := rfl

/-! ### setAttention -/

@[simp] theorem State.setAttention_pending (s : State) (p : Port) (a : Attention) :
    (s.setAttention p a).pending = s.pending := rfl
@[simp] theorem State.setAttention_resetN (s : State) (p : Port) (a : Attention) :
    (s.setAttention p a).resetN = s.resetN := rfl
@[simp] theorem State.setAttention_timeBase (s : State) (p : Port) (a : Attention) :
    (s.setAttention p a).timeBase = s.timeBase := rfl
@[simp] theorem State.setAttention_tickPhase (s : State) (p : Port) (a : Attention) :
    (s.setAttention p a).tickPhase = s.tickPhase := rfl
@[simp] theorem State.setAttention_pool (s : State) (p : Port) (a : Attention) :
    (s.setAttention p a).pool = s.pool := rfl
@[simp] theorem State.setAttention_table (s : State) (p : Port) (a : Attention) :
    (s.setAttention p a).table = s.table := rfl
@[simp] theorem State.setAttention_generation (s : State) (p : Port) (a : Attention) :
    (s.setAttention p a).generation = s.generation := rfl
@[simp] theorem State.setAttention_sequence (s : State) (p : Port) (a : Attention) :
    (s.setAttention p a).sequence = s.sequence := rfl
@[simp] theorem State.setAttention_undelivered (s : State) (p : Port) (a : Attention) :
    (s.setAttention p a).undelivered = s.undelivered := rfl
@[simp] theorem State.setAttention_claim (s : State) (p : Port) (a : Attention) :
    (s.setAttention p a).claim = s.claim := rfl
@[simp] theorem State.setAttention_queues (s : State) (p : Port) (a : Attention) :
    (s.setAttention p a).queues = s.queues := rfl
@[simp] theorem State.setAttention_boards (s : State) (p : Port) (a : Attention) :
    (s.setAttention p a).boards = s.boards := rfl
@[simp] theorem State.setAttention_pulls (s : State) (p : Port) (a : Attention) :
    (s.setAttention p a).pulls = s.pulls := rfl
@[simp] theorem State.setAttention_wanted (s : State) (p : Port) (a : Attention) :
    (s.setAttention p a).wanted = s.wanted := rfl
@[simp] theorem State.setAttention_links (s : State) (p : Port) (a : Attention) :
    (s.setAttention p a).links = s.links := rfl
@[simp] theorem State.setAttention_sessions (s : State) (p : Port) (a : Attention) :
    (s.setAttention p a).sessions = s.sessions := rfl
@[simp] theorem State.setAttention_attention (s : State) (p : Port) (a : Attention) :
    (s.setAttention p a).attention = s.attention.set p a := rfl
@[simp] theorem State.setAttention_pulses (s : State) (p : Port) (a : Attention) :
    (s.setAttention p a).pulses = s.pulses := rfl

/-! ### setPool -/

@[simp] theorem State.setPool_pending (s : State) (pl : Pool) : (s.setPool pl).pending = s.pending := rfl
@[simp] theorem State.setPool_resetN (s : State) (pl : Pool) : (s.setPool pl).resetN = s.resetN := rfl
@[simp] theorem State.setPool_timeBase (s : State) (pl : Pool) : (s.setPool pl).timeBase = s.timeBase := rfl
@[simp] theorem State.setPool_tickPhase (s : State) (pl : Pool) : (s.setPool pl).tickPhase = s.tickPhase := rfl
@[simp] theorem State.setPool_pool (s : State) (pl : Pool) : (s.setPool pl).pool = pl := rfl
@[simp] theorem State.setPool_table (s : State) (pl : Pool) : (s.setPool pl).table = s.table := rfl
@[simp] theorem State.setPool_generation (s : State) (pl : Pool) : (s.setPool pl).generation = s.generation := rfl
@[simp] theorem State.setPool_sequence (s : State) (pl : Pool) : (s.setPool pl).sequence = s.sequence := rfl
@[simp] theorem State.setPool_undelivered (s : State) (pl : Pool) : (s.setPool pl).undelivered = s.undelivered := rfl
@[simp] theorem State.setPool_claim (s : State) (pl : Pool) : (s.setPool pl).claim = s.claim := rfl
@[simp] theorem State.setPool_queues (s : State) (pl : Pool) : (s.setPool pl).queues = s.queues := rfl
@[simp] theorem State.setPool_boards (s : State) (pl : Pool) : (s.setPool pl).boards = s.boards := rfl
@[simp] theorem State.setPool_pulls (s : State) (pl : Pool) : (s.setPool pl).pulls = s.pulls := rfl
@[simp] theorem State.setPool_wanted (s : State) (pl : Pool) : (s.setPool pl).wanted = s.wanted := rfl
@[simp] theorem State.setPool_links (s : State) (pl : Pool) : (s.setPool pl).links = s.links := rfl
@[simp] theorem State.setPool_sessions (s : State) (pl : Pool) : (s.setPool pl).sessions = s.sessions := rfl
@[simp] theorem State.setPool_attention (s : State) (pl : Pool) : (s.setPool pl).attention = s.attention := rfl
@[simp] theorem State.setPool_pulses (s : State) (pl : Pool) : (s.setPool pl).pulses = s.pulses := rfl

/-! ### setPhase -/

@[simp] theorem State.setPhase_pending (s : State) (p : Port) (ph : Phase) :
    (s.setPhase p ph).pending = s.pending := rfl
@[simp] theorem State.setPhase_resetN (s : State) (p : Port) (ph : Phase) : (s.setPhase p ph).resetN = s.resetN := rfl
@[simp] theorem State.setPhase_timeBase (s : State) (p : Port) (ph : Phase) :
    (s.setPhase p ph).timeBase = s.timeBase := rfl
@[simp] theorem State.setPhase_tickPhase (s : State) (p : Port) (ph : Phase) :
    (s.setPhase p ph).tickPhase = s.tickPhase := rfl
@[simp] theorem State.setPhase_pool (s : State) (p : Port) (ph : Phase) : (s.setPhase p ph).pool = s.pool := rfl
@[simp] theorem State.setPhase_table (s : State) (p : Port) (ph : Phase) : (s.setPhase p ph).table = s.table := rfl
@[simp] theorem State.setPhase_generation (s : State) (p : Port) (ph : Phase) :
    (s.setPhase p ph).generation = s.generation := rfl
@[simp] theorem State.setPhase_sequence (s : State) (p : Port) (ph : Phase) :
    (s.setPhase p ph).sequence = s.sequence := rfl
@[simp] theorem State.setPhase_undelivered (s : State) (p : Port) (ph : Phase) :
    (s.setPhase p ph).undelivered = s.undelivered := rfl
@[simp] theorem State.setPhase_claim (s : State) (p : Port) (ph : Phase) : (s.setPhase p ph).claim = s.claim := rfl
@[simp] theorem State.setPhase_queues (s : State) (p : Port) (ph : Phase) : (s.setPhase p ph).queues = s.queues := rfl
@[simp] theorem State.setPhase_boards (s : State) (p : Port) (ph : Phase) : (s.setPhase p ph).boards = s.boards := rfl
@[simp] theorem State.setPhase_pulls (s : State) (p : Port) (ph : Phase) : (s.setPhase p ph).pulls = s.pulls := rfl
@[simp] theorem State.setPhase_wanted (s : State) (p : Port) (ph : Phase) : (s.setPhase p ph).wanted = s.wanted := rfl
@[simp] theorem State.setPhase_links (s : State) (p : Port) (ph : Phase) : (s.setPhase p ph).links = s.links := rfl
@[simp] theorem State.setPhase_sessions (s : State) (p : Port) (ph : Phase) :
    (s.setPhase p ph).sessions = s.sessions.set p { s.sessions[p] with phase := ph } := rfl
@[simp] theorem State.setPhase_attention (s : State) (p : Port) (ph : Phase) :
    (s.setPhase p ph).attention = s.attention := rfl
@[simp] theorem State.setPhase_pulses (s : State) (p : Port) (ph : Phase) : (s.setPhase p ph).pulses = s.pulses := rfl

/-! ### hear -/

@[simp] theorem State.hear_pending (s : State) (p : Port) : (s.hear p).pending = s.pending := rfl
@[simp] theorem State.hear_resetN (s : State) (p : Port) : (s.hear p).resetN = s.resetN := rfl
@[simp] theorem State.hear_timeBase (s : State) (p : Port) : (s.hear p).timeBase = s.timeBase := rfl
@[simp] theorem State.hear_tickPhase (s : State) (p : Port) : (s.hear p).tickPhase = s.tickPhase := rfl
@[simp] theorem State.hear_pool (s : State) (p : Port) : (s.hear p).pool = s.pool := rfl
@[simp] theorem State.hear_table (s : State) (p : Port) : (s.hear p).table = s.table := rfl
@[simp] theorem State.hear_generation (s : State) (p : Port) : (s.hear p).generation = s.generation := rfl
@[simp] theorem State.hear_sequence (s : State) (p : Port) : (s.hear p).sequence = s.sequence := rfl
@[simp] theorem State.hear_undelivered (s : State) (p : Port) : (s.hear p).undelivered = s.undelivered := rfl
@[simp] theorem State.hear_claim (s : State) (p : Port) : (s.hear p).claim = s.claim := rfl
@[simp] theorem State.hear_queues (s : State) (p : Port) : (s.hear p).queues = s.queues := rfl
@[simp] theorem State.hear_boards (s : State) (p : Port) : (s.hear p).boards = s.boards := rfl
@[simp] theorem State.hear_pulls (s : State) (p : Port) : (s.hear p).pulls = s.pulls := rfl
@[simp] theorem State.hear_wanted (s : State) (p : Port) : (s.hear p).wanted = s.wanted := rfl
@[simp] theorem State.hear_links (s : State) (p : Port) : (s.hear p).links = s.links := rfl
@[simp] theorem State.hear_sessions (s : State) (p : Port) :
    (s.hear p).sessions = s.sessions.set p { s.sessions[p] with phase := s.sessions[p].phase.mapConn fun c => c.heard s.timeBase } := rfl
@[simp] theorem State.hear_attention (s : State) (p : Port) : (s.hear p).attention = s.attention := rfl
@[simp] theorem State.hear_pulses (s : State) (p : Port) : (s.hear p).pulses = s.pulses := rfl

/-! ### setLatched -/

@[simp] theorem State.setLatched_pending (s : State) (p : Port) (l : Latched) :
    (s.setLatched p l).pending = s.pending := rfl
@[simp] theorem State.setLatched_resetN (s : State) (p : Port) (l : Latched) :
    (s.setLatched p l).resetN = s.resetN := rfl
@[simp] theorem State.setLatched_timeBase (s : State) (p : Port) (l : Latched) :
    (s.setLatched p l).timeBase = s.timeBase := rfl
@[simp] theorem State.setLatched_tickPhase (s : State) (p : Port) (l : Latched) :
    (s.setLatched p l).tickPhase = s.tickPhase := rfl
@[simp] theorem State.setLatched_pool (s : State) (p : Port) (l : Latched) : (s.setLatched p l).pool = s.pool := rfl
@[simp] theorem State.setLatched_table (s : State) (p : Port) (l : Latched) :
    (s.setLatched p l).table = s.table := rfl
@[simp] theorem State.setLatched_generation (s : State) (p : Port) (l : Latched) :
    (s.setLatched p l).generation = s.generation := rfl
@[simp] theorem State.setLatched_sequence (s : State) (p : Port) (l : Latched) :
    (s.setLatched p l).sequence = s.sequence := rfl
@[simp] theorem State.setLatched_undelivered (s : State) (p : Port) (l : Latched) :
    (s.setLatched p l).undelivered = s.undelivered := rfl
@[simp] theorem State.setLatched_claim (s : State) (p : Port) (l : Latched) :
    (s.setLatched p l).claim = s.claim := rfl
@[simp] theorem State.setLatched_queues (s : State) (p : Port) (l : Latched) :
    (s.setLatched p l).queues = s.queues := rfl
@[simp] theorem State.setLatched_boards (s : State) (p : Port) (l : Latched) :
    (s.setLatched p l).boards = s.boards := rfl
@[simp] theorem State.setLatched_pulls (s : State) (p : Port) (l : Latched) :
    (s.setLatched p l).pulls = s.pulls := rfl
@[simp] theorem State.setLatched_wanted (s : State) (p : Port) (l : Latched) :
    (s.setLatched p l).wanted = s.wanted := rfl
@[simp] theorem State.setLatched_links (s : State) (p : Port) (l : Latched) :
    (s.setLatched p l).links = s.links := rfl
@[simp] theorem State.setLatched_sessions (s : State) (p : Port) (l : Latched) :
    (s.setLatched p l).sessions = s.sessions := rfl
@[simp] theorem State.setLatched_attention (s : State) (p : Port) (l : Latched) :
    (s.setLatched p l).attention = s.attention.set p { s.attention[p] with latched := l } := rfl
@[simp] theorem State.setLatched_pulses (s : State) (p : Port) (l : Latched) :
    (s.setLatched p l).pulses = s.pulses := rfl

/-! ### dropRefs -/

@[simp] theorem State.dropRefs_pending (s : State) (refs : List SlotIx) : (s.dropRefs refs).pending = s.pending := rfl
@[simp] theorem State.dropRefs_resetN (s : State) (refs : List SlotIx) : (s.dropRefs refs).resetN = s.resetN := rfl
@[simp] theorem State.dropRefs_timeBase (s : State) (refs : List SlotIx) :
    (s.dropRefs refs).timeBase = s.timeBase := rfl
@[simp] theorem State.dropRefs_tickPhase (s : State) (refs : List SlotIx) :
    (s.dropRefs refs).tickPhase = s.tickPhase := rfl
@[simp] theorem State.dropRefs_pool (s : State) (refs : List SlotIx) :
    (s.dropRefs refs).pool = s.pool.drop refs := rfl
@[simp] theorem State.dropRefs_table (s : State) (refs : List SlotIx) : (s.dropRefs refs).table = s.table := rfl
@[simp] theorem State.dropRefs_generation (s : State) (refs : List SlotIx) :
    (s.dropRefs refs).generation = s.generation := rfl
@[simp] theorem State.dropRefs_sequence (s : State) (refs : List SlotIx) :
    (s.dropRefs refs).sequence = s.sequence := rfl
@[simp] theorem State.dropRefs_undelivered (s : State) (refs : List SlotIx) :
    (s.dropRefs refs).undelivered = s.undelivered := rfl
@[simp] theorem State.dropRefs_claim (s : State) (refs : List SlotIx) : (s.dropRefs refs).claim = s.claim := rfl
@[simp] theorem State.dropRefs_queues (s : State) (refs : List SlotIx) : (s.dropRefs refs).queues = s.queues := rfl
@[simp] theorem State.dropRefs_boards (s : State) (refs : List SlotIx) : (s.dropRefs refs).boards = s.boards := rfl
@[simp] theorem State.dropRefs_pulls (s : State) (refs : List SlotIx) : (s.dropRefs refs).pulls = s.pulls := rfl
@[simp] theorem State.dropRefs_wanted (s : State) (refs : List SlotIx) : (s.dropRefs refs).wanted = s.wanted := rfl
@[simp] theorem State.dropRefs_links (s : State) (refs : List SlotIx) : (s.dropRefs refs).links = s.links := rfl
@[simp] theorem State.dropRefs_sessions (s : State) (refs : List SlotIx) :
    (s.dropRefs refs).sessions = s.sessions := rfl
@[simp] theorem State.dropRefs_attention (s : State) (refs : List SlotIx) :
    (s.dropRefs refs).attention = s.attention := rfl
@[simp] theorem State.dropRefs_pulses (s : State) (refs : List SlotIx) : (s.dropRefs refs).pulses = s.pulses := rfl

/-! ### endHandEntry -/

@[simp] theorem State.endHandEntry_pending (s : State) (p : Port) (k : Handle) (e : Entry) :
    (s.endHandEntry p k e).pending = s.pending := rfl
@[simp] theorem State.endHandEntry_resetN (s : State) (p : Port) (k : Handle) (e : Entry) :
    (s.endHandEntry p k e).resetN = s.resetN := rfl
@[simp] theorem State.endHandEntry_timeBase (s : State) (p : Port) (k : Handle) (e : Entry) :
    (s.endHandEntry p k e).timeBase = s.timeBase := rfl
@[simp] theorem State.endHandEntry_tickPhase (s : State) (p : Port) (k : Handle) (e : Entry) :
    (s.endHandEntry p k e).tickPhase = s.tickPhase := rfl
@[simp] theorem State.endHandEntry_pool (s : State) (p : Port) (k : Handle) (e : Entry) :
    (s.endHandEntry p k e).pool = s.pool.drop [e.slot] := rfl
@[simp] theorem State.endHandEntry_table (s : State) (p : Port) (k : Handle) (e : Entry) :
    (s.endHandEntry p k e).table = s.table := rfl
@[simp] theorem State.endHandEntry_generation (s : State) (p : Port) (k : Handle) (e : Entry) :
    (s.endHandEntry p k e).generation = s.generation := rfl
@[simp] theorem State.endHandEntry_sequence (s : State) (p : Port) (k : Handle) (e : Entry) :
    (s.endHandEntry p k e).sequence = s.sequence := rfl
@[simp] theorem State.endHandEntry_undelivered (s : State) (p : Port) (k : Handle) (e : Entry) :
    (s.endHandEntry p k e).undelivered = s.undelivered := rfl
@[simp] theorem State.endHandEntry_claim (s : State) (p : Port) (k : Handle) (e : Entry) :
    (s.endHandEntry p k e).claim = s.claim := rfl
@[simp] theorem State.endHandEntry_queues (s : State) (p : Port) (k : Handle) (e : Entry) :
    (s.endHandEntry p k e).queues = s.queues.set p (s.queues[p].freeHandle k) := rfl
@[simp] theorem State.endHandEntry_boards (s : State) (p : Port) (k : Handle) (e : Entry) :
    (s.endHandEntry p k e).boards = s.boards := rfl
@[simp] theorem State.endHandEntry_pulls (s : State) (p : Port) (k : Handle) (e : Entry) :
    (s.endHandEntry p k e).pulls = s.pulls := rfl
@[simp] theorem State.endHandEntry_wanted (s : State) (p : Port) (k : Handle) (e : Entry) :
    (s.endHandEntry p k e).wanted = s.wanted := rfl
@[simp] theorem State.endHandEntry_links (s : State) (p : Port) (k : Handle) (e : Entry) :
    (s.endHandEntry p k e).links = s.links := rfl
@[simp] theorem State.endHandEntry_sessions (s : State) (p : Port) (k : Handle) (e : Entry) :
    (s.endHandEntry p k e).sessions = s.sessions := rfl
@[simp] theorem State.endHandEntry_attention (s : State) (p : Port) (k : Handle) (e : Entry) :
    (s.endHandEntry p k e).attention = s.attention := rfl
@[simp] theorem State.endHandEntry_pulses (s : State) (p : Port) (k : Handle) (e : Entry) :
    (s.endHandEntry p k e).pulses = s.pulses := rfl

/-! ### countDiscards -/

@[simp] theorem State.countDiscards_pending (s : State) (p : Port) (n : Nat) :
    (s.countDiscards p n).pending = s.pending := rfl
@[simp] theorem State.countDiscards_resetN (s : State) (p : Port) (n : Nat) :
    (s.countDiscards p n).resetN = s.resetN := rfl
@[simp] theorem State.countDiscards_timeBase (s : State) (p : Port) (n : Nat) :
    (s.countDiscards p n).timeBase = s.timeBase := rfl
@[simp] theorem State.countDiscards_tickPhase (s : State) (p : Port) (n : Nat) :
    (s.countDiscards p n).tickPhase = s.tickPhase := rfl
@[simp] theorem State.countDiscards_pool (s : State) (p : Port) (n : Nat) : (s.countDiscards p n).pool = s.pool := rfl
@[simp] theorem State.countDiscards_table (s : State) (p : Port) (n : Nat) :
    (s.countDiscards p n).table = s.table := rfl
@[simp] theorem State.countDiscards_generation (s : State) (p : Port) (n : Nat) :
    (s.countDiscards p n).generation = s.generation := rfl
@[simp] theorem State.countDiscards_sequence (s : State) (p : Port) (n : Nat) :
    (s.countDiscards p n).sequence = s.sequence := rfl
@[simp] theorem State.countDiscards_undelivered (s : State) (p : Port) (n : Nat) :
    (s.countDiscards p n).undelivered = s.undelivered := rfl
@[simp] theorem State.countDiscards_claim (s : State) (p : Port) (n : Nat) :
    (s.countDiscards p n).claim = s.claim := rfl
@[simp] theorem State.countDiscards_queues (s : State) (p : Port) (n : Nat) :
    (s.countDiscards p n).queues = s.queues.set p { s.queues[p] with discard := satAdd s.queues[p].discard n } := rfl
@[simp] theorem State.countDiscards_boards (s : State) (p : Port) (n : Nat) :
    (s.countDiscards p n).boards = s.boards := rfl
@[simp] theorem State.countDiscards_pulls (s : State) (p : Port) (n : Nat) :
    (s.countDiscards p n).pulls = s.pulls := rfl
@[simp] theorem State.countDiscards_wanted (s : State) (p : Port) (n : Nat) :
    (s.countDiscards p n).wanted = s.wanted := rfl
@[simp] theorem State.countDiscards_links (s : State) (p : Port) (n : Nat) :
    (s.countDiscards p n).links = s.links := rfl
@[simp] theorem State.countDiscards_sessions (s : State) (p : Port) (n : Nat) :
    (s.countDiscards p n).sessions = s.sessions := rfl
@[simp] theorem State.countDiscards_attention (s : State) (p : Port) (n : Nat) :
    (s.countDiscards p n).attention = s.attention := rfl
@[simp] theorem State.countDiscards_pulses (s : State) (p : Port) (n : Nat) :
    (s.countDiscards p n).pulses = s.pulses := rfl

/-! ### answer -/

@[simp] theorem State.answer_pending (s : State) (h : Head) (code : Byte) (r : Reply) :
    (s.answer h code r).pending = s.pending := rfl
@[simp] theorem State.answer_resetN (s : State) (h : Head) (code : Byte) (r : Reply) :
    (s.answer h code r).resetN = s.resetN := rfl
@[simp] theorem State.answer_timeBase (s : State) (h : Head) (code : Byte) (r : Reply) :
    (s.answer h code r).timeBase = s.timeBase := rfl
@[simp] theorem State.answer_tickPhase (s : State) (h : Head) (code : Byte) (r : Reply) :
    (s.answer h code r).tickPhase = s.tickPhase := rfl
@[simp] theorem State.answer_pool (s : State) (h : Head) (code : Byte) (r : Reply) :
    (s.answer h code r).pool = s.pool := rfl
@[simp] theorem State.answer_table (s : State) (h : Head) (code : Byte) (r : Reply) :
    (s.answer h code r).table = s.table := rfl
@[simp] theorem State.answer_generation (s : State) (h : Head) (code : Byte) (r : Reply) :
    (s.answer h code r).generation = s.generation := rfl
@[simp] theorem State.answer_sequence (s : State) (h : Head) (code : Byte) (r : Reply) :
    (s.answer h code r).sequence = s.sequence := rfl
@[simp] theorem State.answer_undelivered (s : State) (h : Head) (code : Byte) (r : Reply) :
    (s.answer h code r).undelivered = s.undelivered := rfl
@[simp] theorem State.answer_claim (s : State) (h : Head) (code : Byte) (r : Reply) :
    (s.answer h code r).claim = s.claim := rfl
@[simp] theorem State.answer_queues (s : State) (h : Head) (code : Byte) (r : Reply) :
    (s.answer h code r).queues = s.queues := rfl
@[simp] theorem State.answer_boards (s : State) (h : Head) (code : Byte) (r : Reply) :
    (s.answer h code r).boards = s.boards := rfl
@[simp] theorem State.answer_pulls (s : State) (h : Head) (code : Byte) (r : Reply) :
    (s.answer h code r).pulls = s.pulls := rfl
@[simp] theorem State.answer_wanted (s : State) (h : Head) (code : Byte) (r : Reply) :
    (s.answer h code r).wanted = s.wanted := rfl
@[simp] theorem State.answer_links (s : State) (h : Head) (code : Byte) (r : Reply) :
    (s.answer h code r).links = s.links.set h.port
      { s.links[h.port] with
        held := s.response h.port code h.number r
        lastExecuted := s.response h.port code h.number r
        lastNumber := if forgetsNumber code r.outcome then none else some h.number } := rfl
@[simp] theorem State.answer_sessions (s : State) (h : Head) (code : Byte) (r : Reply) :
    (s.answer h code r).sessions = s.sessions := rfl
@[simp] theorem State.answer_attention (s : State) (h : Head) (code : Byte) (r : Reply) :
    (s.answer h code r).attention = s.attention := rfl
@[simp] theorem State.answer_pulses (s : State) (h : Head) (code : Byte) (r : Reply) :
    (s.answer h code r).pulses = s.pulses := rfl

/-! ### replay -/

@[simp] theorem State.replay_pending (s : State) (p : Port) : (s.replay p).pending = s.pending := rfl
@[simp] theorem State.replay_resetN (s : State) (p : Port) : (s.replay p).resetN = s.resetN := rfl
@[simp] theorem State.replay_timeBase (s : State) (p : Port) : (s.replay p).timeBase = s.timeBase := rfl
@[simp] theorem State.replay_tickPhase (s : State) (p : Port) : (s.replay p).tickPhase = s.tickPhase := rfl
@[simp] theorem State.replay_pool (s : State) (p : Port) : (s.replay p).pool = s.pool := rfl
@[simp] theorem State.replay_table (s : State) (p : Port) : (s.replay p).table = s.table := rfl
@[simp] theorem State.replay_generation (s : State) (p : Port) : (s.replay p).generation = s.generation := rfl
@[simp] theorem State.replay_sequence (s : State) (p : Port) : (s.replay p).sequence = s.sequence := rfl
@[simp] theorem State.replay_undelivered (s : State) (p : Port) : (s.replay p).undelivered = s.undelivered := rfl
@[simp] theorem State.replay_claim (s : State) (p : Port) : (s.replay p).claim = s.claim := rfl
@[simp] theorem State.replay_queues (s : State) (p : Port) : (s.replay p).queues = s.queues := rfl
@[simp] theorem State.replay_boards (s : State) (p : Port) : (s.replay p).boards = s.boards := rfl
@[simp] theorem State.replay_pulls (s : State) (p : Port) : (s.replay p).pulls = s.pulls := rfl
@[simp] theorem State.replay_wanted (s : State) (p : Port) : (s.replay p).wanted = s.wanted := rfl
@[simp] theorem State.replay_links (s : State) (p : Port) :
    (s.replay p).links = s.links.set p { s.links[p] with held := s.links[p].lastExecuted, duplicates := satAdd s.links[p].duplicates 1 } := rfl
@[simp] theorem State.replay_sessions (s : State) (p : Port) : (s.replay p).sessions = s.sessions := rfl
@[simp] theorem State.replay_attention (s : State) (p : Port) : (s.replay p).attention = s.attention := rfl
@[simp] theorem State.replay_pulses (s : State) (p : Port) : (s.replay p).pulses = s.pulses := rfl

/-! ### refreshWanted -/

@[simp] theorem State.refreshWanted_pending (s : State) : s.refreshWanted.pending = s.pending := rfl
@[simp] theorem State.refreshWanted_resetN (s : State) : s.refreshWanted.resetN = s.resetN := rfl
@[simp] theorem State.refreshWanted_timeBase (s : State) : s.refreshWanted.timeBase = s.timeBase := rfl
@[simp] theorem State.refreshWanted_tickPhase (s : State) : s.refreshWanted.tickPhase = s.tickPhase := rfl
@[simp] theorem State.refreshWanted_pool (s : State) : s.refreshWanted.pool = s.pool := rfl
@[simp] theorem State.refreshWanted_table (s : State) : s.refreshWanted.table = s.table := rfl
@[simp] theorem State.refreshWanted_generation (s : State) : s.refreshWanted.generation = s.generation := rfl
@[simp] theorem State.refreshWanted_sequence (s : State) : s.refreshWanted.sequence = s.sequence := rfl
@[simp] theorem State.refreshWanted_undelivered (s : State) : s.refreshWanted.undelivered = s.undelivered := rfl
@[simp] theorem State.refreshWanted_claim (s : State) : s.refreshWanted.claim = s.claim := rfl
@[simp] theorem State.refreshWanted_queues (s : State) : s.refreshWanted.queues = s.queues := rfl
@[simp] theorem State.refreshWanted_boards (s : State) : s.refreshWanted.boards = s.boards := rfl
@[simp] theorem State.refreshWanted_pulls (s : State) : s.refreshWanted.pulls = s.pulls := rfl
@[simp] theorem State.refreshWanted_wanted (s : State) :
    s.refreshWanted.wanted = Vector.ofFn fun p : Port => Vector.ofFn fun b : BoardIx => s.isWanted p b := rfl
@[simp] theorem State.refreshWanted_links (s : State) : s.refreshWanted.links = s.links := rfl
@[simp] theorem State.refreshWanted_sessions (s : State) : s.refreshWanted.sessions = s.sessions := rfl
@[simp] theorem State.refreshWanted_attention (s : State) : s.refreshWanted.attention = s.attention := rfl
@[simp] theorem State.refreshWanted_pulses (s : State) : s.refreshWanted.pulses = s.pulses := rfl

/-! ### driveLines -/

@[simp] theorem State.driveLines_pending (s : State) : s.driveLines.pending = s.pending := rfl
@[simp] theorem State.driveLines_resetN (s : State) : s.driveLines.resetN = s.resetN := rfl
@[simp] theorem State.driveLines_timeBase (s : State) : s.driveLines.timeBase = s.timeBase := rfl
@[simp] theorem State.driveLines_tickPhase (s : State) : s.driveLines.tickPhase = s.tickPhase := rfl
@[simp] theorem State.driveLines_pool (s : State) : s.driveLines.pool = s.pool := rfl
@[simp] theorem State.driveLines_table (s : State) : s.driveLines.table = s.table := rfl
@[simp] theorem State.driveLines_generation (s : State) : s.driveLines.generation = s.generation := rfl
@[simp] theorem State.driveLines_sequence (s : State) : s.driveLines.sequence = s.sequence := rfl
@[simp] theorem State.driveLines_undelivered (s : State) : s.driveLines.undelivered = s.undelivered := rfl
@[simp] theorem State.driveLines_claim (s : State) : s.driveLines.claim = s.claim := rfl
@[simp] theorem State.driveLines_queues (s : State) : s.driveLines.queues = s.queues := rfl
@[simp] theorem State.driveLines_boards (s : State) : s.driveLines.boards = s.boards := rfl
@[simp] theorem State.driveLines_pulls (s : State) : s.driveLines.pulls = s.pulls := rfl
@[simp] theorem State.driveLines_wanted (s : State) : s.driveLines.wanted = s.wanted := rfl
@[simp] theorem State.driveLines_links (s : State) : s.driveLines.links = s.links := rfl
@[simp] theorem State.driveLines_sessions (s : State) : s.driveLines.sessions = s.sessions := rfl
theorem State.driveLines_attention (s : State) :
    s.driveLines.attention = Vector.ofFn fun p : Port => { s.attention[p] with line := s.lineAsserted p } := rfl
@[simp] theorem State.driveLines_pulses (s : State) : s.driveLines.pulses = s.pulses := rfl

/-! ### settle -/

@[simp] theorem State.settle_pending (s : State) : s.settle.pending = s.pending := rfl
@[simp] theorem State.settle_resetN (s : State) : s.settle.resetN = s.resetN := rfl
@[simp] theorem State.settle_timeBase (s : State) : s.settle.timeBase = s.timeBase := rfl
@[simp] theorem State.settle_tickPhase (s : State) : s.settle.tickPhase = s.tickPhase := rfl
@[simp] theorem State.settle_pool (s : State) : s.settle.pool = s.pool := rfl
@[simp] theorem State.settle_table (s : State) : s.settle.table = s.table := rfl
@[simp] theorem State.settle_generation (s : State) : s.settle.generation = s.generation := rfl
@[simp] theorem State.settle_sequence (s : State) : s.settle.sequence = s.sequence := rfl
@[simp] theorem State.settle_undelivered (s : State) : s.settle.undelivered = s.undelivered := rfl
@[simp] theorem State.settle_claim (s : State) : s.settle.claim = s.claim := rfl
@[simp] theorem State.settle_queues (s : State) : s.settle.queues = s.queues := rfl
@[simp] theorem State.settle_boards (s : State) : s.settle.boards = s.boards := rfl
@[simp] theorem State.settle_pulls (s : State) : s.settle.pulls = s.pulls := rfl
theorem State.settle_wanted (s : State) :
    s.settle.wanted = Vector.ofFn fun p : Port => Vector.ofFn fun b : BoardIx => s.isWanted p b := rfl
@[simp] theorem State.settle_links (s : State) : s.settle.links = s.links := rfl
@[simp] theorem State.settle_sessions (s : State) : s.settle.sessions = s.sessions := rfl
theorem State.settle_attention (s : State) :
    s.settle.attention = Vector.ofFn fun p : Port => { s.attention[p] with line := s.refreshWanted.lineAsserted p } := rfl
@[simp] theorem State.settle_pulses (s : State) : s.settle.pulses = s.pulses := rfl

/-! ### tearSlots -/

@[simp] theorem State.tearSlots_pending (s : State) (p : Port) (d : Bool) :
    (s.tearSlots p d).pending = s.pending := rfl
@[simp] theorem State.tearSlots_resetN (s : State) (p : Port) (d : Bool) : (s.tearSlots p d).resetN = s.resetN := rfl
@[simp] theorem State.tearSlots_timeBase (s : State) (p : Port) (d : Bool) :
    (s.tearSlots p d).timeBase = s.timeBase := rfl
@[simp] theorem State.tearSlots_tickPhase (s : State) (p : Port) (d : Bool) :
    (s.tearSlots p d).tickPhase = s.tickPhase := rfl
@[simp] theorem State.tearSlots_pool (s : State) (p : Port) (d : Bool) :
    (s.tearSlots p d).pool = s.pool.after (dropAll (freeComposing p s.pool.slots) (s.queues[p].tornRefs d)) := rfl
@[simp] theorem State.tearSlots_table (s : State) (p : Port) (d : Bool) : (s.tearSlots p d).table = s.table := rfl
@[simp] theorem State.tearSlots_generation (s : State) (p : Port) (d : Bool) :
    (s.tearSlots p d).generation = s.generation := rfl
@[simp] theorem State.tearSlots_sequence (s : State) (p : Port) (d : Bool) :
    (s.tearSlots p d).sequence = s.sequence := rfl
@[simp] theorem State.tearSlots_undelivered (s : State) (p : Port) (d : Bool) :
    (s.tearSlots p d).undelivered = s.undelivered := rfl
@[simp] theorem State.tearSlots_claim (s : State) (p : Port) (d : Bool) : (s.tearSlots p d).claim = s.claim := rfl
@[simp] theorem State.tearSlots_queues (s : State) (p : Port) (d : Bool) : (s.tearSlots p d).queues = s.queues := rfl
@[simp] theorem State.tearSlots_boards (s : State) (p : Port) (d : Bool) : (s.tearSlots p d).boards = s.boards := rfl
@[simp] theorem State.tearSlots_pulls (s : State) (p : Port) (d : Bool) : (s.tearSlots p d).pulls = s.pulls := rfl
@[simp] theorem State.tearSlots_wanted (s : State) (p : Port) (d : Bool) : (s.tearSlots p d).wanted = s.wanted := rfl
@[simp] theorem State.tearSlots_links (s : State) (p : Port) (d : Bool) : (s.tearSlots p d).links = s.links := rfl
@[simp] theorem State.tearSlots_sessions (s : State) (p : Port) (d : Bool) :
    (s.tearSlots p d).sessions = s.sessions := rfl
@[simp] theorem State.tearSlots_attention (s : State) (p : Port) (d : Bool) :
    (s.tearSlots p d).attention = s.attention := rfl
@[simp] theorem State.tearSlots_pulses (s : State) (p : Port) (d : Bool) : (s.tearSlots p d).pulses = s.pulses := rfl

/-! ### tearQueue -/

@[simp] theorem State.tearQueue_pending (s : State) (p : Port) (d : Bool) :
    (s.tearQueue p d).pending = s.pending := rfl
@[simp] theorem State.tearQueue_resetN (s : State) (p : Port) (d : Bool) : (s.tearQueue p d).resetN = s.resetN := rfl
@[simp] theorem State.tearQueue_timeBase (s : State) (p : Port) (d : Bool) :
    (s.tearQueue p d).timeBase = s.timeBase := rfl
@[simp] theorem State.tearQueue_tickPhase (s : State) (p : Port) (d : Bool) :
    (s.tearQueue p d).tickPhase = s.tickPhase := rfl
@[simp] theorem State.tearQueue_pool (s : State) (p : Port) (d : Bool) : (s.tearQueue p d).pool = s.pool := rfl
@[simp] theorem State.tearQueue_table (s : State) (p : Port) (d : Bool) : (s.tearQueue p d).table = s.table := rfl
@[simp] theorem State.tearQueue_generation (s : State) (p : Port) (d : Bool) :
    (s.tearQueue p d).generation = s.generation := rfl
@[simp] theorem State.tearQueue_sequence (s : State) (p : Port) (d : Bool) :
    (s.tearQueue p d).sequence = s.sequence := rfl
@[simp] theorem State.tearQueue_undelivered (s : State) (p : Port) (d : Bool) :
    (s.tearQueue p d).undelivered = s.undelivered := rfl
@[simp] theorem State.tearQueue_claim (s : State) (p : Port) (d : Bool) : (s.tearQueue p d).claim = s.claim := rfl
@[simp] theorem State.tearQueue_queues (s : State) (p : Port) (d : Bool) :
    (s.tearQueue p d).queues = s.queues.set p
      (if d then
        { s.queues[p] with
          urgent := []
          normal := []
          hand := Vector.replicate 4 none
          discard := satAdd s.queues[p].discard s.queues[p].handCount }
       else { s.queues[p] with urgent := [], normal := [] }) := rfl
@[simp] theorem State.tearQueue_boards (s : State) (p : Port) (d : Bool) : (s.tearQueue p d).boards = s.boards := rfl
@[simp] theorem State.tearQueue_pulls (s : State) (p : Port) (d : Bool) : (s.tearQueue p d).pulls = s.pulls := rfl
@[simp] theorem State.tearQueue_wanted (s : State) (p : Port) (d : Bool) : (s.tearQueue p d).wanted = s.wanted := rfl
@[simp] theorem State.tearQueue_links (s : State) (p : Port) (d : Bool) : (s.tearQueue p d).links = s.links := rfl
@[simp] theorem State.tearQueue_sessions (s : State) (p : Port) (d : Bool) :
    (s.tearQueue p d).sessions = s.sessions := rfl
@[simp] theorem State.tearQueue_attention (s : State) (p : Port) (d : Bool) :
    (s.tearQueue p d).attention = s.attention := rfl
@[simp] theorem State.tearQueue_pulses (s : State) (p : Port) (d : Bool) : (s.tearQueue p d).pulses = s.pulses := rfl

/-! ### tearBoards -/

@[simp] theorem State.tearBoards_pending (s : State) (p : Port) : (s.tearBoards p).pending = s.pending := rfl
@[simp] theorem State.tearBoards_resetN (s : State) (p : Port) : (s.tearBoards p).resetN = s.resetN := rfl
@[simp] theorem State.tearBoards_timeBase (s : State) (p : Port) : (s.tearBoards p).timeBase = s.timeBase := rfl
@[simp] theorem State.tearBoards_tickPhase (s : State) (p : Port) : (s.tearBoards p).tickPhase = s.tickPhase := rfl
@[simp] theorem State.tearBoards_pool (s : State) (p : Port) : (s.tearBoards p).pool = s.pool := rfl
@[simp] theorem State.tearBoards_table (s : State) (p : Port) : (s.tearBoards p).table = s.table := rfl
@[simp] theorem State.tearBoards_generation (s : State) (p : Port) : (s.tearBoards p).generation = s.generation := rfl
@[simp] theorem State.tearBoards_sequence (s : State) (p : Port) : (s.tearBoards p).sequence = s.sequence := rfl
@[simp] theorem State.tearBoards_undelivered (s : State) (p : Port) :
    (s.tearBoards p).undelivered = s.undelivered := rfl
@[simp] theorem State.tearBoards_claim (s : State) (p : Port) : (s.tearBoards p).claim = s.claim := rfl
@[simp] theorem State.tearBoards_queues (s : State) (p : Port) : (s.tearBoards p).queues = s.queues := rfl
@[simp] theorem State.tearBoards_boards (s : State) (p : Port) :
    (s.tearBoards p).boards = s.boards.map (Board.forget p) := rfl
@[simp] theorem State.tearBoards_pulls (s : State) (p : Port) : (s.tearBoards p).pulls = s.pulls := rfl
@[simp] theorem State.tearBoards_wanted (s : State) (p : Port) : (s.tearBoards p).wanted = s.wanted := rfl
@[simp] theorem State.tearBoards_links (s : State) (p : Port) : (s.tearBoards p).links = s.links := rfl
@[simp] theorem State.tearBoards_sessions (s : State) (p : Port) : (s.tearBoards p).sessions = s.sessions := rfl
@[simp] theorem State.tearBoards_attention (s : State) (p : Port) : (s.tearBoards p).attention = s.attention := rfl
@[simp] theorem State.tearBoards_pulses (s : State) (p : Port) : (s.tearBoards p).pulses = s.pulses := rfl

/-! ### tearPulls -/

@[simp] theorem State.tearPulls_pending (s : State) (p : Port) : (s.tearPulls p).pending = s.pending := rfl
@[simp] theorem State.tearPulls_resetN (s : State) (p : Port) : (s.tearPulls p).resetN = s.resetN := rfl
@[simp] theorem State.tearPulls_timeBase (s : State) (p : Port) : (s.tearPulls p).timeBase = s.timeBase := rfl
@[simp] theorem State.tearPulls_tickPhase (s : State) (p : Port) : (s.tearPulls p).tickPhase = s.tickPhase := rfl
@[simp] theorem State.tearPulls_pool (s : State) (p : Port) : (s.tearPulls p).pool = s.pool := rfl
@[simp] theorem State.tearPulls_table (s : State) (p : Port) : (s.tearPulls p).table = s.table := rfl
@[simp] theorem State.tearPulls_generation (s : State) (p : Port) : (s.tearPulls p).generation = s.generation := rfl
@[simp] theorem State.tearPulls_sequence (s : State) (p : Port) : (s.tearPulls p).sequence = s.sequence := rfl
@[simp] theorem State.tearPulls_undelivered (s : State) (p : Port) :
    (s.tearPulls p).undelivered = s.undelivered := rfl
@[simp] theorem State.tearPulls_claim (s : State) (p : Port) : (s.tearPulls p).claim = s.claim := rfl
@[simp] theorem State.tearPulls_queues (s : State) (p : Port) : (s.tearPulls p).queues = s.queues := rfl
@[simp] theorem State.tearPulls_boards (s : State) (p : Port) : (s.tearPulls p).boards = s.boards := rfl
@[simp] theorem State.tearPulls_pulls (s : State) (p : Port) :
    (s.tearPulls p).pulls = (s.pulls.filter fun e => decide (e.requester ≠ p)).map (s.loseSupplier p) := rfl
@[simp] theorem State.tearPulls_wanted (s : State) (p : Port) : (s.tearPulls p).wanted = s.wanted := rfl
@[simp] theorem State.tearPulls_links (s : State) (p : Port) : (s.tearPulls p).links = s.links := rfl
@[simp] theorem State.tearPulls_sessions (s : State) (p : Port) : (s.tearPulls p).sessions = s.sessions := rfl
@[simp] theorem State.tearPulls_attention (s : State) (p : Port) : (s.tearPulls p).attention = s.attention := rfl
@[simp] theorem State.tearPulls_pulses (s : State) (p : Port) : (s.tearPulls p).pulses = s.pulses := rfl

/-! ### tearClaim -/

@[simp] theorem State.tearClaim_pending (s : State) (p : Port) : (s.tearClaim p).pending = s.pending := rfl
@[simp] theorem State.tearClaim_resetN (s : State) (p : Port) : (s.tearClaim p).resetN = s.resetN := rfl
@[simp] theorem State.tearClaim_timeBase (s : State) (p : Port) : (s.tearClaim p).timeBase = s.timeBase := rfl
@[simp] theorem State.tearClaim_tickPhase (s : State) (p : Port) : (s.tearClaim p).tickPhase = s.tickPhase := rfl
@[simp] theorem State.tearClaim_pool (s : State) (p : Port) : (s.tearClaim p).pool = s.pool := rfl
@[simp] theorem State.tearClaim_table (s : State) (p : Port) : (s.tearClaim p).table = s.table := rfl
@[simp] theorem State.tearClaim_generation (s : State) (p : Port) : (s.tearClaim p).generation = s.generation := rfl
@[simp] theorem State.tearClaim_sequence (s : State) (p : Port) : (s.tearClaim p).sequence = s.sequence := rfl
@[simp] theorem State.tearClaim_undelivered (s : State) (p : Port) :
    (s.tearClaim p).undelivered = s.undelivered := rfl
@[simp] theorem State.tearClaim_claim (s : State) (p : Port) :
    (s.tearClaim p).claim = s.claim.filter fun c => decide (c.holder ≠ p) := rfl
@[simp] theorem State.tearClaim_queues (s : State) (p : Port) : (s.tearClaim p).queues = s.queues := rfl
@[simp] theorem State.tearClaim_boards (s : State) (p : Port) : (s.tearClaim p).boards = s.boards := rfl
@[simp] theorem State.tearClaim_pulls (s : State) (p : Port) : (s.tearClaim p).pulls = s.pulls := rfl
@[simp] theorem State.tearClaim_wanted (s : State) (p : Port) : (s.tearClaim p).wanted = s.wanted := rfl
@[simp] theorem State.tearClaim_links (s : State) (p : Port) : (s.tearClaim p).links = s.links := rfl
@[simp] theorem State.tearClaim_sessions (s : State) (p : Port) : (s.tearClaim p).sessions = s.sessions := rfl
@[simp] theorem State.tearClaim_attention (s : State) (p : Port) : (s.tearClaim p).attention = s.attention := rfl
@[simp] theorem State.tearClaim_pulses (s : State) (p : Port) : (s.tearClaim p).pulses = s.pulses := rfl

/-! ### countExpiry -/

@[simp] theorem State.countExpiry_pending (s : State) (p : Port) : (s.countExpiry p).pending = s.pending := rfl
@[simp] theorem State.countExpiry_resetN (s : State) (p : Port) : (s.countExpiry p).resetN = s.resetN := rfl
@[simp] theorem State.countExpiry_timeBase (s : State) (p : Port) : (s.countExpiry p).timeBase = s.timeBase := rfl
@[simp] theorem State.countExpiry_tickPhase (s : State) (p : Port) : (s.countExpiry p).tickPhase = s.tickPhase := rfl
@[simp] theorem State.countExpiry_pool (s : State) (p : Port) : (s.countExpiry p).pool = s.pool := rfl
@[simp] theorem State.countExpiry_table (s : State) (p : Port) : (s.countExpiry p).table = s.table := rfl
@[simp] theorem State.countExpiry_generation (s : State) (p : Port) :
    (s.countExpiry p).generation = s.generation := rfl
@[simp] theorem State.countExpiry_sequence (s : State) (p : Port) : (s.countExpiry p).sequence = s.sequence := rfl
@[simp] theorem State.countExpiry_undelivered (s : State) (p : Port) :
    (s.countExpiry p).undelivered = s.undelivered := rfl
@[simp] theorem State.countExpiry_claim (s : State) (p : Port) : (s.countExpiry p).claim = s.claim := rfl
@[simp] theorem State.countExpiry_queues (s : State) (p : Port) :
    (s.countExpiry p).queues = s.queues.set p { s.queues[p] with expiry := satAdd s.queues[p].expiry 1 } := rfl
@[simp] theorem State.countExpiry_boards (s : State) (p : Port) : (s.countExpiry p).boards = s.boards := rfl
@[simp] theorem State.countExpiry_pulls (s : State) (p : Port) : (s.countExpiry p).pulls = s.pulls := rfl
@[simp] theorem State.countExpiry_wanted (s : State) (p : Port) : (s.countExpiry p).wanted = s.wanted := rfl
@[simp] theorem State.countExpiry_links (s : State) (p : Port) : (s.countExpiry p).links = s.links := rfl
@[simp] theorem State.countExpiry_sessions (s : State) (p : Port) : (s.countExpiry p).sessions = s.sessions := rfl
@[simp] theorem State.countExpiry_attention (s : State) (p : Port) : (s.countExpiry p).attention = s.attention := rfl
@[simp] theorem State.countExpiry_pulses (s : State) (p : Port) : (s.countExpiry p).pulses = s.pulses := rfl

/-! ### latchDiscarded -/

@[simp] theorem State.latchDiscarded_pending (s : State) (p : Port) : (s.latchDiscarded p).pending = s.pending := rfl
@[simp] theorem State.latchDiscarded_resetN (s : State) (p : Port) : (s.latchDiscarded p).resetN = s.resetN := rfl
@[simp] theorem State.latchDiscarded_timeBase (s : State) (p : Port) :
    (s.latchDiscarded p).timeBase = s.timeBase := rfl
@[simp] theorem State.latchDiscarded_tickPhase (s : State) (p : Port) :
    (s.latchDiscarded p).tickPhase = s.tickPhase := rfl
@[simp] theorem State.latchDiscarded_pool (s : State) (p : Port) : (s.latchDiscarded p).pool = s.pool := rfl
@[simp] theorem State.latchDiscarded_table (s : State) (p : Port) : (s.latchDiscarded p).table = s.table := rfl
@[simp] theorem State.latchDiscarded_generation (s : State) (p : Port) :
    (s.latchDiscarded p).generation = s.generation := rfl
@[simp] theorem State.latchDiscarded_sequence (s : State) (p : Port) :
    (s.latchDiscarded p).sequence = s.sequence := rfl
@[simp] theorem State.latchDiscarded_undelivered (s : State) (p : Port) :
    (s.latchDiscarded p).undelivered = s.undelivered := rfl
@[simp] theorem State.latchDiscarded_claim (s : State) (p : Port) : (s.latchDiscarded p).claim = s.claim := rfl
@[simp] theorem State.latchDiscarded_queues (s : State) (p : Port) : (s.latchDiscarded p).queues = s.queues := rfl
@[simp] theorem State.latchDiscarded_boards (s : State) (p : Port) : (s.latchDiscarded p).boards = s.boards := rfl
@[simp] theorem State.latchDiscarded_pulls (s : State) (p : Port) : (s.latchDiscarded p).pulls = s.pulls := rfl
@[simp] theorem State.latchDiscarded_wanted (s : State) (p : Port) : (s.latchDiscarded p).wanted = s.wanted := rfl
@[simp] theorem State.latchDiscarded_links (s : State) (p : Port) : (s.latchDiscarded p).links = s.links := rfl
@[simp] theorem State.latchDiscarded_sessions (s : State) (p : Port) :
    (s.latchDiscarded p).sessions = s.sessions := rfl
@[simp] theorem State.latchDiscarded_attention (s : State) (p : Port) :
    (s.latchDiscarded p).attention = s.attention.set p { s.attention[p] with latched := { s.attention[p].latched with discarded := true } } := rfl
@[simp] theorem State.latchDiscarded_pulses (s : State) (p : Port) : (s.latchDiscarded p).pulses = s.pulses := rfl

/-! ### countAcceptance -/

@[simp] theorem State.countAcceptance_pending (s : State) (x : Posting) :
    (s.countAcceptance x).pending = s.pending := rfl
@[simp] theorem State.countAcceptance_resetN (s : State) (x : Posting) :
    (s.countAcceptance x).resetN = s.resetN := rfl
@[simp] theorem State.countAcceptance_timeBase (s : State) (x : Posting) :
    (s.countAcceptance x).timeBase = s.timeBase := rfl
@[simp] theorem State.countAcceptance_tickPhase (s : State) (x : Posting) :
    (s.countAcceptance x).tickPhase = s.tickPhase := rfl
@[simp] theorem State.countAcceptance_pool (s : State) (x : Posting) : (s.countAcceptance x).pool = s.pool := rfl
@[simp] theorem State.countAcceptance_table (s : State) (x : Posting) : (s.countAcceptance x).table = s.table := rfl
@[simp] theorem State.countAcceptance_generation (s : State) (x : Posting) :
    (s.countAcceptance x).generation = s.generation := rfl
@[simp] theorem State.countAcceptance_sequence (s : State) (x : Posting) :
    (s.countAcceptance x).sequence = SequenceCounter.after x.sequence := rfl
@[simp] theorem State.countAcceptance_undelivered (s : State) (x : Posting) :
    (s.countAcceptance x).undelivered = satAdd s.undelivered (s.undeliveredPorts (x.rule.destinations x.author)) := rfl
@[simp] theorem State.countAcceptance_claim (s : State) (x : Posting) : (s.countAcceptance x).claim = s.claim := rfl
@[simp] theorem State.countAcceptance_queues (s : State) (x : Posting) :
    (s.countAcceptance x).queues = s.queues := rfl
@[simp] theorem State.countAcceptance_boards (s : State) (x : Posting) :
    (s.countAcceptance x).boards = s.boards := rfl
@[simp] theorem State.countAcceptance_pulls (s : State) (x : Posting) : (s.countAcceptance x).pulls = s.pulls := rfl
@[simp] theorem State.countAcceptance_wanted (s : State) (x : Posting) :
    (s.countAcceptance x).wanted = s.wanted := rfl
@[simp] theorem State.countAcceptance_links (s : State) (x : Posting) : (s.countAcceptance x).links = s.links := rfl
@[simp] theorem State.countAcceptance_sessions (s : State) (x : Posting) :
    (s.countAcceptance x).sessions = s.sessions := rfl
@[simp] theorem State.countAcceptance_attention (s : State) (x : Posting) :
    (s.countAcceptance x).attention = s.attention := rfl
@[simp] theorem State.countAcceptance_pulses (s : State) (x : Posting) :
    (s.countAcceptance x).pulses = s.pulses := rfl

/-! ### setQueues -/

@[simp] theorem State.setQueues_pending (s : State) (qs : PerPort Queue) : (s.setQueues qs).pending = s.pending := rfl
@[simp] theorem State.setQueues_resetN (s : State) (qs : PerPort Queue) : (s.setQueues qs).resetN = s.resetN := rfl
@[simp] theorem State.setQueues_timeBase (s : State) (qs : PerPort Queue) :
    (s.setQueues qs).timeBase = s.timeBase := rfl
@[simp] theorem State.setQueues_tickPhase (s : State) (qs : PerPort Queue) :
    (s.setQueues qs).tickPhase = s.tickPhase := rfl
@[simp] theorem State.setQueues_pool (s : State) (qs : PerPort Queue) : (s.setQueues qs).pool = s.pool := rfl
@[simp] theorem State.setQueues_table (s : State) (qs : PerPort Queue) : (s.setQueues qs).table = s.table := rfl
@[simp] theorem State.setQueues_generation (s : State) (qs : PerPort Queue) :
    (s.setQueues qs).generation = s.generation := rfl
@[simp] theorem State.setQueues_sequence (s : State) (qs : PerPort Queue) :
    (s.setQueues qs).sequence = s.sequence := rfl
@[simp] theorem State.setQueues_undelivered (s : State) (qs : PerPort Queue) :
    (s.setQueues qs).undelivered = s.undelivered := rfl
@[simp] theorem State.setQueues_claim (s : State) (qs : PerPort Queue) : (s.setQueues qs).claim = s.claim := rfl
@[simp] theorem State.setQueues_queues (s : State) (qs : PerPort Queue) : (s.setQueues qs).queues = qs := rfl
@[simp] theorem State.setQueues_boards (s : State) (qs : PerPort Queue) : (s.setQueues qs).boards = s.boards := rfl
@[simp] theorem State.setQueues_pulls (s : State) (qs : PerPort Queue) : (s.setQueues qs).pulls = s.pulls := rfl
@[simp] theorem State.setQueues_wanted (s : State) (qs : PerPort Queue) : (s.setQueues qs).wanted = s.wanted := rfl
@[simp] theorem State.setQueues_links (s : State) (qs : PerPort Queue) : (s.setQueues qs).links = s.links := rfl
@[simp] theorem State.setQueues_sessions (s : State) (qs : PerPort Queue) :
    (s.setQueues qs).sessions = s.sessions := rfl
@[simp] theorem State.setQueues_attention (s : State) (qs : PerPort Queue) :
    (s.setQueues qs).attention = s.attention := rfl
@[simp] theorem State.setQueues_pulses (s : State) (qs : PerPort Queue) : (s.setQueues qs).pulses = s.pulses := rfl

end Sys2Proof.Machine
end

