-- ==== Sys2Proof/Laws/Attention.lean ====
section
/-! SUPPORT. What settling a state gives: the wanted sets and the lines agree with it, and nothing else of it moves. -/

namespace Sys2Proof.Machine

open Sys2Proof.Safety

/-- Every reason is among the ten. -/
theorem Reason.mem_all (r : Reason) : r ∈ Reason.all := by cases r <;> decide

/-- A reason is at the top exactly when it is pending and FENCED or enabled, and none before it in order is. -/
theorem State.topReason_isSome (s : State) (p : Port) :
    (s.topReason p).isSome = true ↔ ∃ r, s.pendingReason p r = true ∧ s.enabledReason p r = true := by
  simp only [State.topReason, List.find?_isSome, Bool.and_eq_true]
  exact ⟨fun ⟨r, _, h⟩ => ⟨r, h⟩, fun ⟨r, h⟩ => ⟨r, r.mem_all, h⟩⟩

/-- The line is asserted as R180 says. -/
theorem State.lineAsserted_iff (s : State) (p : Port) :
    s.lineAsserted p = true ↔
      s.resetN = true ∧
        (s.sessions[p].phase.state = .fenced ∨
          ∃ r : Reason, s.pendingReason p r = true ∧ s.attention[p].mask.getLsbD r.bit = true) := by
  simp only [State.lineAsserted, Bool.and_eq_true, State.topReason_isSome, and_congr_right_iff]
  intro _
  constructor
  · rintro ⟨r, hp, he⟩
    simp only [State.enabledReason, Bool.or_eq_true, decide_eq_true_eq] at he
    rcases he with rfl | he
    · exact .inl (by simpa [State.pendingReason] using hp)
    · exact .inr ⟨r, hp, he⟩
  · rintro (hf | ⟨r, hp, hm⟩)
    · exact ⟨.fenced, by simpa [State.pendingReason] using hf, by simp [State.enabledReason]⟩
    · exact ⟨r, hp, by simp only [State.enabledReason, hm, Bool.or_true]⟩

/-- Driving the lines changes no latched flag and no mask. The index is a number: the form simp brings an index to. -/
@[simp] theorem State.driveLines_latched (s : State) (i : Nat) (hi : i < 4) :
    s.driveLines.attention[i].latched = s.attention[i].latched := by
  simp [State.driveLines_attention]

@[simp] theorem State.driveLines_mask (s : State) (i : Nat) (hi : i < 4) :
    s.driveLines.attention[i].mask = s.attention[i].mask := by
  simp [State.driveLines_attention]

@[simp] theorem State.driveLines_line (s : State) (i : Nat) (hi : i < 4) :
    s.driveLines.attention[i].line = s.lineAsserted ⟨i, hi⟩ := by
  simp [State.driveLines_attention]

@[simp] theorem State.settle_latched (s : State) (i : Nat) (hi : i < 4) :
    s.settle.attention[i].latched = s.attention[i].latched := by
  simp [State.settle_attention]

@[simp] theorem State.settle_mask (s : State) (i : Nat) (hi : i < 4) :
    s.settle.attention[i].mask = s.attention[i].mask := by
  simp [State.settle_attention]

/-- The latched flags of all ports, as one vector, are what they were. -/
@[simp] theorem State.settle_latched_all (s : State) :
    s.settle.attention.map (fun a => a.latched) = s.attention.map fun a => a.latched := by
  ext i hi
  simp [State.settle_attention]

/-- The masks of all ports, as one vector, are what they were. -/
@[simp] theorem State.settle_mask_all (s : State) :
    s.settle.attention.map (fun a => a.mask) = s.attention.map fun a => a.mask := by
  ext i hi
  simp [State.settle_attention]

theorem State.driveLines_pendingReason (s : State) (p : Port) (r : Reason) :
    s.driveLines.pendingReason p r = s.pendingReason p r := by
  cases r <;> simp [State.pendingReason, State.hasDonePull]
  rfl

/-- After settling, the wanted sets are as R102 says. -/
theorem State.settle_wantedExact (s : State) : wantedExact s.settle := by
  intro p b
  simp [State.settle_wanted, State.isWanted, Pull.waitsOn, List.any_eq_true]

/-- After settling, the lines are as R180 says. -/
theorem State.settle_linesExact (s : State) : linesExact s.settle := by
  intro p
  have h : s.settle.attention[p].line = s.refreshWanted.lineAsserted p := by
    simp [State.settle_attention]
  rw [h, State.lineAsserted_iff]
  simp [State.settle, State.driveLines_pendingReason]

end Sys2Proof.Machine
end

