-- ==== Sys2Proof/Laws/Bytes.lean ====
section
/-! SUPPORT. Bytes and frames: little-endian round trips, the judge on a written frame, and requests of a wrong length. -/

namespace Sys2Proof.Laws

theorem leBytes_length (k n : Nat) : (leBytes k n).length = k := by
  induction k generalizing n with
  | zero => rfl
  | succ k ih => simp [leBytes, ih]

theorem leNat_leBytes (k n : Nat) (h : n < 256 ^ k) : leNat (leBytes k n) = n := by
  induction k generalizing n with
  | zero => simp at h; subst h; rfl
  | succ k ih =>
    simp only [leBytes, leNat]
    rw [ih (n / 256) (by rw [pow_succ] at h; omega)]
    simp only [BitVec.toNat_ofNat]; omega

theorem half_roundTrip (h : Half) : half (BitVec.ofNat 8 h.toNat) (BitVec.ofNat 8 (h.toNat / 256)) = h := by
  apply BitVec.eq_of_toNat_eq
  simp only [half, leNat, BitVec.toNat_ofNat]
  have := h.isLt
  omega

theorem seq_roundTrip (q : Seq) : BitVec.ofNat 48 (leNat (leBytes 6 q.toNat)) = q := by
  rw [leNat_leBytes 6 _ q.isLt]; simp

theorem slot_roundTrip (s : SlotIx) : slotOf (slotByte s) = s := by
  apply Fin.ext
  simp [slotOf, slotByte]

/-- A transaction whose first bytes are a header, `args` and the CRC of both is judged well-formed (R163, R164). -/
theorem judge_complete (code num : Byte) (args extra : List Byte) (h : args.length ≤ 72) :
    judge (code :: num :: BitVec.ofNat 8 args.length :: (args ++
      (leBytes 2 (crc16 (code :: num :: BitVec.ofNat 8 args.length :: args)).toNat ++ extra))) =
      .frame (num.setWidth 4) code args := by
  have hl : (BitVec.ofNat 8 args.length).toNat = args.length := by simp; omega
  simp only [judge, hl]
  rw [if_neg]
  · rw [List.drop_left, List.take_left, if_pos]
    rw [List.take_left' (leBytes_length _ _)]
  · simp [leBytes_length]; omega

/-- A frame whose argument length its command does not take is no request (R167). -/
theorem requestOf_none (h : Head) (code : Byte) (args : List Byte) (hn : lengthAccepted code args.length = false) :
    requestOf h code args = none := by
  cases hr : requestOf h code args with
  | none => rfl
  | some c =>
    exfalso
    unfold requestOf at hr
    split at hr
    all_goals try (cases hr)
    all_goals rename_i hc
    all_goals unfold lengthAccepted argLengths at hn; rw [hc] at hn
    all_goals first
     | unfold bare at hr | unfold ofByte at hr | unfold ofTwo at hr | unfold ofHalf at hr | unfold ofHandle at hr
     | unfold ofOpen at hr | unfold ofSubmit at hr | unfold ofRule at hr | unfold ofBoard at hr | skip
    all_goals try split at hr
    all_goals try (cases hr; done)
    all_goals first
     | exact absurd (show true = false from hn) (by decide)
     | skip
    unfold ofWrite at hr
    split at hr
    · split at hr
      · replace hn : (decide (2 ≤ _) && decide (_ ≤ 66)) = false := hn
        simp only [List.length_cons, Bool.and_eq_false_iff, decide_eq_false_iff_not] at hn
        omega
      · cases hr
    · cases hr

/-- A two-byte field is its bytes, the second one above the first (R175). -/
theorem half_eq_append (a b : Byte) : half a b = b ++ a := by
  apply BitVec.eq_of_toNat_eq
  have := a.isLt
  have := b.isLt
  simp only [half, leNat, BitVec.toNat_ofNat, BitVec.toNat_append]
  rw [← Nat.shiftLeft_add_eq_or_of_lt a.isLt, Nat.shiftLeft_eq]
  omega

/-- A sequence is its six bytes, each one above the one before (R175). -/
theorem seq_eq_append (q0 q1 q2 q3 q4 q5 : Byte) :
    (BitVec.ofNat 48 (leNat [q0, q1, q2, q3, q4, q5]) : Seq) = q5 ++ q4 ++ q3 ++ q2 ++ q1 ++ q0 := by
  apply BitVec.eq_of_toNat_eq
  have := q0.isLt
  have := q1.isLt
  have := q2.isLt
  have := q3.isLt
  have := q4.isLt
  have := q5.isLt
  simp only [leNat, BitVec.toNat_ofNat, BitVec.toNat_append]
  rw [← Nat.shiftLeft_add_eq_or_of_lt q4.isLt, ← Nat.shiftLeft_add_eq_or_of_lt q3.isLt,
    ← Nat.shiftLeft_add_eq_or_of_lt q2.isLt, ← Nat.shiftLeft_add_eq_or_of_lt q1.isLt,
    ← Nat.shiftLeft_add_eq_or_of_lt q0.isLt]
  simp only [Nat.shiftLeft_eq]
  omega

end Sys2Proof.Laws
end

