-- ==== Sys2Proof/Laws/Keeps.lean ====
section
/-! SUPPORT. How a property of states is kept: once for a request, an event and a step, then action by action. -/

namespace Sys2Proof.Machine

/-- An action keeps a property of the state. -/
def Keeps (I : State → Prop) (act : Action) : Prop := ∀ s : State, I s → I (act s).2

/-- A refusal keeps everything. -/
theorem refuse_keeps (I : State → Prop) (o : OutcomeCode) : Keeps I (refuse o) := fun _ h => h

/-- An action taken in OPEN only: to keep a property it need keep it where the session is OPEN. -/
theorem whenOpen_keeps {I : State → Prop} {p : Port} {act : Conn → Action}
    (h : ∀ (c : Conn) (s : State), I s → s.sessions[p].phase = .opened c → I (act c s).2) :
    Keeps I (whenOpen p act) := by
  intro s hs
  unfold whenOpen
  split
  · exact hs
  · exact h _ _ hs ‹_›
  · exact hs
  · exact hs

/-- The same for an action taken in OPEN and in CLOSING. -/
theorem whenInSession_keeps {I : State → Prop} {p : Port} {act actClosing : Conn → Action}
    (h : ∀ (c : Conn) (s : State), I s → s.sessions[p].phase = .opened c → I (act c s).2)
    (h' : ∀ (c : Conn) (s : State), I s → s.sessions[p].phase = .closing c → I (actClosing c s).2) :
    Keeps I (whenInSession p act actClosing) := by
  intro s hs
  unfold whenInSession
  split
  · exact hs
  · exact h _ _ hs ‹_›
  · exact h' _ _ hs ‹_›
  · exact hs

/-- An action behind an argument check, at one state. -/
theorem withArgument_next {I : State → Prop} {α : Type} {x : Option α} {act : α → Action} {s : State} (hs : I s)
    (h : ∀ a, x = some a → I (act a s).2) : I (withArgument x act s).2 := by
  unfold withArgument
  split
  · exact h _ rfl
  · exact hs

/-- An action of the claim's holder, at one state. -/
theorem whenHolder_next {I : State → Prop} {p : Port} {act : Claim → Action} {s : State} (hs : I s)
    (h : ∀ c, s.claim = some c → c.holder = p → I (act c s).2) : I (whenHolder p act s).2 := by
  unfold whenHolder
  split
  · split
    · exact h _ ‹_› ‹_›
    · exact hs
  · exact hs

/-- An action on a hand entry that passes the test of R69, at one state. -/
theorem withHandEntry_next {I : State → Prop} {p : Port} {k : Handle} {sequence : Seq} {act : HandEntry → Action}
    {s : State} (hs : I s)
    (h : ∀ x, s.queues[p].hand[k] = some x → x.entry.sequence = sequence → I (act x s).2) :
    I (withHandEntry p k sequence act s).2 := by
  unfold withHandEntry
  split
  · split
    · exact h _ ‹_› ‹_›
    · exact hs
  · exact hs

/-- A request keeps what hearing, a link record's change, its action and settling keep. -/
theorem State.request_keeps {I : State → Prop} (hear : ∀ s p, I s → I (s.hear p))
    (link : ∀ s p l, I s → I (s.setLink p l)) (settle : ∀ s, I s → I s.settle) (h : Head) (code : Byte)
    {act : Action} (ha : Keeps I act) (s : State) (hs : I s) : I (s.request h code act) := by
  unfold State.request
  split
  · exact hs
  · split
    · exact settle _ (link _ _ _ (hear _ _ hs))
    · exact settle _ (link _ _ _ (ha _ (hear _ _ hs)))

/-- An event inside the hub keeps what its effect and settling keep. -/
theorem State.event_keeps {I : State → Prop} (settle : ∀ s, I s → I s.settle) (s : State) (hs : I s)
    (f : State → State) (hf : I s → I (f s)) : I (s.event f) := by
  unfold State.event
  split
  · exact hs
  · exact settle _ (hf hs)

/-- What every command keeps, every step keeps. -/
theorem step_keeps {I : State → Prop} (queue : ∀ (s : State) (q : List Instr), I s → I { s with pending := q })
    (h : ∀ (c : Instr) (s t : State), I s → exec c s = .next t → I t) (s t : State) (hs : I s)
    (hst : step s = .next t) : I t := by
  unfold step at hst
  split at hst
  · cases hst; exact hs
  · exact h _ _ _ (queue _ _ hs) hst

/-- What a property must be kept by for every command to keep it: one field for each thing a command can do. -/
structure KeptByAll (I : State → Prop) : Prop where
  hear : ∀ s p, I s → I (s.hear p)
  link : ∀ s p l, I s → I (s.setLink p l)
  settle : ∀ s, I s → I s.settle
  openSession : ∀ p a, Keeps I (openAction p a)
  close : ∀ p c s, I s → s.sessions[p].phase = .opened c → I (closeOpened p c s).2
  unfence : ∀ p, Keeps I (unfenceAction p)
  resetPort : ∀ p, Keeps I (resetPortAction p)
  reserve : ∀ p c s, I s → s.sessions[p].phase = .opened c → I (reserveAction p c s).2
  write : ∀ p c slot offset data s, I s → s.sessions[p].phase = .opened c → I (writeAction p slot offset data s).2
  abandon : ∀ p c slot s, I s → s.sessions[p].phase = .opened c → I (abandonAction p slot s).2
  acceptQueued : ∀ (x : Posting) c payload lane policy s, I s → s.sessions[x.author].phase = .opened c →
    s.pool.slots[x.slot] = .composing x.author payload → s.sequence = .next x.sequence →
    s.table.govern x.tag x.author = some x.rule → x.rule.cls = .queued lane policy →
    ¬(policy = .refuse ∧ portCount (s.fullPorts (s.filterOpen (x.rule.destinations x.author))) ≠ 0) →
    I (s.acceptQueued x payload
      (s.deliveries (s.filterOpen (x.rule.destinations x.author)) policy
        { slot := x.slot, sequence := x.sequence, lane := lane, redelivery := 0 }))
  acceptBoard : ∀ (x : Posting) c payload b s, I s → s.sessions[x.author].phase = .opened c →
    s.pool.slots[x.slot] = .composing x.author payload → s.sequence = .next x.sequence →
    s.table.govern x.tag x.author = some x.rule → x.rule.cls = .board b →
    I (s.acceptBoard x payload b (s.filterOpen (x.rule.destinations x.author)))
  take : ∀ p c s, I s → s.sessions[p].phase = .opened c → I (takeAction p c s).2
  release : ∀ p c k x s, I s → s.sessions[p].phase.conn? = some c → s.queues[p].hand[k] = some x →
    I (releaseEntry p k x s).2
  returnToLane : ∀ p c k x s, I s → s.sessions[p].phase = .opened c → s.queues[p].hand[k] = some x →
    I (returnToLane p k x s).2
  returnDiscards : ∀ p c k x s, I s → s.sessions[p].phase = .closing c → s.queues[p].hand[k] = some x →
    I (returnDiscards p k x s).2
  renew : ∀ p c k x s, I s → s.sessions[p].phase = .opened c → s.queues[p].hand[k] = some x →
    I (renewLease p c k x s).2
  readBoard : ∀ p c b s, I s → s.sessions[p].phase = .opened c → I (readBoardAction p b s).2
  pull : ∀ p c b s, I s → s.sessions[p].phase = .opened c → I (pullAction p b s).2
  cancelPull : ∀ p b, Keeps I (cancelPullAction p b)
  collect : ∀ p b, Keeps I (collectAction p b)
  claim : ∀ p c s, I s → s.sessions[p].phase = .opened c → I (claimAction p s).2
  edit : ∀ f x s, I s → s.claim = some x → I (editShadow f x s).2
  commit : ∀ p x s, I s → s.claim = some x → x.shadow.firstFailure = none → I (s.commitTable p x.shadow)
  dropClaim : ∀ s, I s → I { s with claim := none }
  acknowledge : ∀ p c r s, I s → s.sessions[p].phase.conn? = some c → I (ackAction p r s).2
  setMask : ∀ p c m s, I s → reasonsInRange m = true → s.sessions[p].phase.conn? = some c → I (setMaskAction p m s).2
  clearPort : ∀ p s, I s → I (s.clearPortCounters p)
  clearHub : ∀ s, I s → I s.clearHubCounters
  pinReset : ∀ s, I s → I s.pinReset
  pulses : ∀ s, I s → I { s with pulses := s.pulses + 1 }
  assertReset : ∀ s t, I s → exec .resetNAssert s = .next t → I t
  advance : ∀ s, I s → s.resetN = true → I s.advance
  lapse : ∀ p k x s, I s → s.queues[p].hand[k] = some x → I (s.lapse p k x.entry)
  expirePull : ∀ p b s, I s → I { s with pulls := s.pulls.map (expirePull p b) }
  lapseClaim : ∀ x s, I s → s.claim = some x → I (s.lapseClaim x)
  fence : ∀ p c s, I s → s.sessions[p].phase.conn? = some c → I (s.fence p)

theorem KeptByAll.conn {s : State} {p : Port} {c : Conn}
    (h : s.sessions[p].phase = .opened c ∨ s.sessions[p].phase = .closing c) :
    s.sessions[p].phase.conn? = some c := by
  rcases h with h | h <;> rw [h] <;> rfl

/-- A submission keeps such a property, since acceptance does. -/
theorem KeptByAll.submit {I : State → Prop} (K : KeptByAll I) (p : Port) (c : Conn) (slot : SlotIx) (tag : Half)
    (length : Fin 65) (s : State) (hs : I s) (hp : s.sessions[p].phase = .opened c) :
    I (submitAction p slot tag length s).2 := by
  unfold submitAction
  split
  · rename_i owner payload hslot
    split
    · rename_i howner
      subst howner
      split
      · exact hs
      · rename_i n hn
        split
        · exact hs
        · rename_i r hr
          unfold submitRouted
          simp only []
          cases hc : r.cls with
          | queued lane policy =>
            simp only [submitQueued]
            split
            · exact hs
            · rename_i hf
              exact K.acceptQueued
                { author := owner, slot := slot, tag := tag, length := length, rule := r, sequence := n } c payload
                lane policy s hs hp hslot hn hr hc hf
          | board b =>
            exact K.acceptBoard
              { author := owner, slot := slot, tag := tag, length := length, rule := r, sequence := n } c payload b s
              hs hp hslot hn hr hc
    · exact hs
  · exact hs
  · exact hs

/-- Every command keeps such a property. -/
theorem KeptByAll.exec {I : State → Prop} (K : KeptByAll I) (c : Instr) (s t : State) (hs : I s)
    (h : exec c s = .next t) : I t := by
  have request : ∀ (h : Head) (code : Byte) {act : Action}, Keeps I act → I (s.request h code act) :=
    fun h code _ ha => State.request_keeps K.hear K.link K.settle h code ha s hs
  have event : ∀ f : State → State, (I s → I (f s)) → I (s.event f) := State.event_keeps K.settle s hs
  cases c with
  | resetNAssert => exact K.assertReset s t hs h
  | poll h' =>
    cases h
    by_cases hr : s.resetN = true
    · simpa [hr] using K.hear s h'.port hs
    · simpa [hr] using hs
  | openSession h' a => cases h; exact request _ _ (K.openSession _ _)
  | close h' =>
    cases h; exact request _ _ (whenInSession_keeps (fun c s hs hp => K.close _ c s hs hp) fun _ _ hs _ => hs)
  | unfence h' => cases h; exact request _ _ (K.unfence _)
  | resetPort h' => cases h; exact request _ _ (K.resetPort _)
  | reserve h' => cases h; exact request _ _ (whenOpen_keeps fun c s hs hp => K.reserve _ c s hs hp)
  | write h' sl off d =>
    cases h
    exact request _ _ (whenOpen_keeps fun c s hs hp => withArgument_next hs fun o _ => K.write _ c _ _ _ s hs hp)
  | abandon h' sl => cases h; exact request _ _ (whenOpen_keeps fun c s hs hp => K.abandon _ c _ s hs hp)
  | submit h' sl tag len =>
    cases h
    exact request _ _ (whenOpen_keeps fun c s hs hp => withArgument_next hs fun o _ => K.submit _ c _ _ _ s hs hp)
  | take h' => cases h; exact request _ _ (whenOpen_keeps fun c s hs hp => K.take _ c s hs hp)
  | peek h' =>
    cases h
    refine request _ _ (whenOpen_keeps fun c s hs hp => ?_)
    unfold peekAction
    split <;> exact hs
  | release h' k q =>
    cases h
    exact request _ _ (whenInSession_keeps
      (fun c s hs hp => withArgument_next hs fun k _ => withHandEntry_next hs fun x hx _ =>
        K.release _ c k x s hs (KeptByAll.conn (.inl hp)) hx)
      fun c s hs hp => withArgument_next hs fun k _ => withHandEntry_next hs fun x hx _ =>
        K.release _ c k x s hs (KeptByAll.conn (.inr hp)) hx)
  | giveBack h' k q =>
    cases h
    exact request _ _ (whenInSession_keeps
      (fun c s hs hp => withArgument_next hs fun k _ => withHandEntry_next hs fun x hx _ =>
        K.returnToLane _ c k x s hs hp hx)
      fun c s hs hp => withArgument_next hs fun k _ => withHandEntry_next hs fun x hx _ =>
        K.returnDiscards _ c k x s hs hp hx)
  | renew h' k q =>
    cases h
    exact request _ _ (whenOpen_keeps fun c s hs hp => withArgument_next hs fun k _ =>
      withHandEntry_next hs fun x hx _ => K.renew _ c k x s hs hp hx)
  | readBoard h' b =>
    cases h
    exact request _ _ (whenOpen_keeps fun c s hs hp => withArgument_next hs fun b _ => K.readBoard _ c b s hs hp)
  | pull h' b =>
    cases h
    exact request _ _ (whenOpen_keeps fun c s hs hp => withArgument_next hs fun b _ => K.pull _ c b s hs hp)
  | cancelPull h' b =>
    cases h
    exact request _ _ (whenOpen_keeps fun c s hs hp => withArgument_next hs fun b _ => K.cancelPull _ b s hs)
  | collect h' b =>
    cases h
    exact request _ _ (whenOpen_keeps fun c s hs hp => withArgument_next hs fun b _ => K.collect _ b s hs)
  | claim h' => cases h; exact request _ _ (whenOpen_keeps fun c s hs hp => K.claim _ c s hs hp)
  | editRule h' i r =>
    cases h
    exact request _ _ (whenOpen_keeps fun c s hs hp => withArgument_next hs fun i _ => withArgument_next hs fun r _ =>
      whenHolder_next hs fun x hx _ => K.edit _ x s hs hx)
  | clearRule h' i =>
    cases h
    exact request _ _ (whenOpen_keeps fun c s hs hp => withArgument_next hs fun i _ =>
      whenHolder_next hs fun x hx _ => K.edit _ x s hs hx)
  | editBoard h' i b =>
    cases h
    exact request _ _ (whenOpen_keeps fun c s hs hp => withArgument_next hs fun i _ => withArgument_next hs fun r _ =>
      whenHolder_next hs fun x hx _ => K.edit _ x s hs hx)
  | readRule h' i sel =>
    cases h
    refine request _ _ (whenOpen_keeps fun c s hs hp => withArgument_next hs fun i _ =>
      withArgument_next hs fun z _ => ?_)
    cases z
    · exact hs
    · exact whenHolder_next hs fun x hx _ => hs
  | readBoarddef h' i sel =>
    cases h
    refine request _ _ (whenOpen_keeps fun c s hs hp => withArgument_next hs fun i _ =>
      withArgument_next hs fun z _ => ?_)
    cases z
    · exact hs
    · exact whenHolder_next hs fun x hx _ => hs
  | commit h' =>
    cases h
    refine request _ _ (whenOpen_keeps fun c s hs hp => whenHolder_next hs fun x hx _ => ?_)
    unfold commitShadow
    split
    · exact hs
    · exact K.commit _ x s hs hx ‹_›
  | dropClaim h' =>
    cases h
    exact request _ _ (whenOpen_keeps fun c s hs hp => whenHolder_next hs fun x hx _ => K.dropClaim s hs)
  | status h' => cases h; exact request _ _ fun s hs => hs
  | ackReasons h' r =>
    cases h
    exact request _ _ (whenInSession_keeps
      (fun c s hs hp => withArgument_next hs fun r _ => K.acknowledge _ c r s hs (KeptByAll.conn (.inl hp)))
      fun c s hs hp => withArgument_next hs fun r _ => K.acknowledge _ c r s hs (KeptByAll.conn (.inr hp)))
  | setAttention h' m =>
    cases h
    have range : ∀ m', reasonsOf m = some m' → reasonsInRange m' = true := by
      intro m' hm
      unfold reasonsOf at hm
      split at hm
      · cases hm; assumption
      · cases hm
    exact request _ _ (whenInSession_keeps
      (fun c s hs hp => withArgument_next hs fun m' hm =>
        K.setMask _ c m' s hs (range m' hm) (KeptByAll.conn (.inl hp)))
      fun c s hs hp => withArgument_next hs fun m' hm =>
        K.setMask _ c m' s hs (range m' hm) (KeptByAll.conn (.inr hp)))
  | stats h' cp ch =>
    cases h
    refine request _ _ fun s hs => ?_
    unfold statsGate
    split
    · exact hs
    · refine withArgument_next hs fun cp _ => withArgument_next hs fun ch _ => ?_
      have h1 : I (if cp then s.clearPortCounters h'.port else s) := by
        split
        · exact K.clearPort _ s hs
        · exact hs
      simp only [statsAction]
      split
      · split
        · exact K.clearHub _ h1
        · exact h1
      · exact h1
  | linkTruncated p b =>
    cases h
    unfold State.linkError
    split
    · exact hs
    · exact K.link _ _ _ hs
  | linkCrc p b =>
    cases h
    unfold State.linkError
    split
    · exact hs
    · exact K.link _ _ _ hs
  | badCommand h' code args =>
    cases h
    split
    · exact hs
    · exact K.settle _ (K.link _ _ _ (K.hear _ _ hs))
  | transactionTooSoon p => cases h; exact hs
  | resetNRelease => cases h; exact K.pinReset s hs
  | resetNShortPulse =>
    cases h
    have h1 := K.pulses s hs
    by_cases hp : Config.shortPulseResets s.pulses = true
    · simpa [hp] using K.pinReset _ h1
    · simpa [hp] using h1
  | tick => cases h; exact hs
  | leaseExpiry p k =>
    cases h
    split
    · split
      · exact event _ fun hs => K.lapse p k _ s hs ‹_›
      · exact hs
    · exact hs
  | pullExpiry p b =>
    cases h
    split
    · exact event _ fun hs => K.expirePull p b s hs
    · exact hs
  | claimLapse =>
    cases h
    split
    · split
      · exact event _ fun hs => K.lapseClaim _ s hs ‹_›
      · exact hs
    · exact hs
  | silenceExpiry p =>
    cases h
    split
    · rename_i hd
      refine event _ fun hs => ?_
      unfold State.silenceDue at hd
      split at hd
      · exact K.fence p _ s hs ‹_›
      · cases hd
    · exact hs
  | timeBaseAdvance =>
    cases h
    by_cases hr : s.resetN = true
    · simpa [hr] using K.advance s hs hr
    · simpa [hr] using hs

/-- And so does every step, if it takes no note of the queue of commands. -/
theorem KeptByAll.step {I : State → Prop} (K : KeptByAll I)
    (queue : ∀ (s : State) (q : List Instr), I s → I { s with pending := q }) (s t : State) (hs : I s)
    (h : Machine.step s = .next t) : I t :=
  step_keeps queue (fun c s t => K.exec c s t) s t hs h

end Sys2Proof.Machine
end

