-- ==== Sys2Proof/Laws/PerInstr.lean ====
section
/-! SUPPORT. For every command: the frame of a well-formed request passes the length check of R167 and fits in a frame, and
the frames refused there do not pass it. -/

namespace Sys2Proof.Laws

/-- A command whose frame the first check of R166 refuses. -/
def isRefusedFrame : Instr → Bool
  | .badCommand _ _ _ => true
  | _ => false

/-- A well-formed command that is carried by a request frame has at most 72 argument bytes (R163), and the command table
accepts their number for its code exactly when the command is not a frame refused at the first check (R167). -/
def RequestLengthAccepted.Statement (i : Instr) : Prop :=
  i.wellFormed = true → ∀ r, i.request? = some r →
    r.args.length ≤ 72 ∧ lengthAccepted r.code r.args.length = !isRefusedFrame i

/-- A command that no request frame carries. -/
theorem RequestLengthAccepted.Statement.ofNone {i : Instr} (h : i.request? = none) : RequestLengthAccepted.Statement i := by
  intro _ r hr
  rw [h] at hr
  cases hr

/-- A request whose argument length does not depend on its operands. -/
theorem RequestLengthAccepted.Statement.ofFixed {i : Instr} (r : Request) (h : i.request? = some r) (n : Nat) (hn : r.args.length = n)
    (hs : n ≤ 72) (ha : lengthAccepted r.code n = !isRefusedFrame i) : RequestLengthAccepted.Statement i := by
  intro _ r' hr
  rw [h] at hr
  cases hr
  exact hn ▸ ⟨hs, ha⟩

theorem RequestLengthAccepted.poll (h : Head) : RequestLengthAccepted.Statement (.poll h) :=
  .ofFixed _ rfl 0 rfl (by decide) rfl

theorem RequestLengthAccepted.openSession (h : Head) (args : OpenArgs) :
    RequestLengthAccepted.Statement (.openSession h args) :=
  .ofFixed _ rfl 8 rfl (by decide) rfl

theorem RequestLengthAccepted.close (h : Head) : RequestLengthAccepted.Statement (.close h) :=
  .ofFixed _ rfl 0 rfl (by decide) rfl

theorem RequestLengthAccepted.unfence (h : Head) : RequestLengthAccepted.Statement (.unfence h) :=
  .ofFixed _ rfl 0 rfl (by decide) rfl

theorem RequestLengthAccepted.resetPort (h : Head) : RequestLengthAccepted.Statement (.resetPort h) :=
  .ofFixed _ rfl 0 rfl (by decide) rfl

theorem RequestLengthAccepted.reserve (h : Head) : RequestLengthAccepted.Statement (.reserve h) :=
  .ofFixed _ rfl 0 rfl (by decide) rfl

theorem RequestLengthAccepted.write (h : Head) (slot : SlotIx) (offset : Byte) (data : List Byte) :
    RequestLengthAccepted.Statement (.write h slot offset data) := by
  intro hw r hr
  cases hr
  have hd : data.length ≤ 64 := by simpa [Instr.wellFormed, writeDataFits] using hw
  refine ⟨by simp; omega, ?_⟩
  simp [lengthAccepted, argLengths, Code.write, isRefusedFrame]
  omega

theorem RequestLengthAccepted.abandon (h : Head) (slot : SlotIx) :
    RequestLengthAccepted.Statement (.abandon h slot) :=
  .ofFixed _ rfl 1 rfl (by decide) rfl

theorem RequestLengthAccepted.submit (h : Head) (slot : SlotIx) (tag : Half) (length : Byte) :
    RequestLengthAccepted.Statement (.submit h slot tag length) :=
  .ofFixed _ rfl 4 rfl (by decide) rfl

theorem RequestLengthAccepted.take (h : Head) : RequestLengthAccepted.Statement (.take h) :=
  .ofFixed _ rfl 0 rfl (by decide) rfl

theorem RequestLengthAccepted.peek (h : Head) : RequestLengthAccepted.Statement (.peek h) :=
  .ofFixed _ rfl 0 rfl (by decide) rfl

theorem RequestLengthAccepted.release (h : Head) (handle : Byte) (sequence : Seq) :
    RequestLengthAccepted.Statement (.release h handle sequence) :=
  .ofFixed _ rfl 7 rfl (by decide) rfl

theorem RequestLengthAccepted.giveBack (h : Head) (handle : Byte) (sequence : Seq) :
    RequestLengthAccepted.Statement (.giveBack h handle sequence) :=
  .ofFixed _ rfl 7 rfl (by decide) rfl

theorem RequestLengthAccepted.renew (h : Head) (handle : Byte) (sequence : Seq) :
    RequestLengthAccepted.Statement (.renew h handle sequence) :=
  .ofFixed _ rfl 7 rfl (by decide) rfl

theorem RequestLengthAccepted.readBoard (h : Head) (board : Byte) :
    RequestLengthAccepted.Statement (.readBoard h board) :=
  .ofFixed _ rfl 1 rfl (by decide) rfl

theorem RequestLengthAccepted.pull (h : Head) (board : Byte) : RequestLengthAccepted.Statement (.pull h board) :=
  .ofFixed _ rfl 1 rfl (by decide) rfl

theorem RequestLengthAccepted.cancelPull (h : Head) (board : Byte) :
    RequestLengthAccepted.Statement (.cancelPull h board) :=
  .ofFixed _ rfl 1 rfl (by decide) rfl

theorem RequestLengthAccepted.collect (h : Head) (board : Byte) :
    RequestLengthAccepted.Statement (.collect h board) :=
  .ofFixed _ rfl 1 rfl (by decide) rfl

theorem RequestLengthAccepted.claim (h : Head) : RequestLengthAccepted.Statement (.claim h) :=
  .ofFixed _ rfl 0 rfl (by decide) rfl

theorem RequestLengthAccepted.editRule (h : Head) (index : Byte) (rule : RuleImage) :
    RequestLengthAccepted.Statement (.editRule h index rule) :=
  .ofFixed _ rfl 14 rfl (by decide) rfl

theorem RequestLengthAccepted.clearRule (h : Head) (index : Byte) :
    RequestLengthAccepted.Statement (.clearRule h index) :=
  .ofFixed _ rfl 1 rfl (by decide) rfl

theorem RequestLengthAccepted.editBoard (h : Head) (index : Byte) (board : BoardImage) :
    RequestLengthAccepted.Statement (.editBoard h index board) :=
  .ofFixed _ rfl 5 rfl (by decide) rfl

theorem RequestLengthAccepted.readRule (h : Head) (index : Byte) (selector : Byte) :
    RequestLengthAccepted.Statement (.readRule h index selector) :=
  .ofFixed _ rfl 2 rfl (by decide) rfl

theorem RequestLengthAccepted.readBoarddef (h : Head) (index : Byte) (selector : Byte) :
    RequestLengthAccepted.Statement (.readBoarddef h index selector) :=
  .ofFixed _ rfl 2 rfl (by decide) rfl

theorem RequestLengthAccepted.commit (h : Head) : RequestLengthAccepted.Statement (.commit h) :=
  .ofFixed _ rfl 0 rfl (by decide) rfl

theorem RequestLengthAccepted.dropClaim (h : Head) : RequestLengthAccepted.Statement (.dropClaim h) :=
  .ofFixed _ rfl 0 rfl (by decide) rfl

theorem RequestLengthAccepted.status (h : Head) : RequestLengthAccepted.Statement (.status h) :=
  .ofFixed _ rfl 0 rfl (by decide) rfl

theorem RequestLengthAccepted.ackReasons (h : Head) (reasons : Half) :
    RequestLengthAccepted.Statement (.ackReasons h reasons) :=
  .ofFixed _ rfl 2 rfl (by decide) rfl

theorem RequestLengthAccepted.setAttention (h : Head) (mask : Half) :
    RequestLengthAccepted.Statement (.setAttention h mask) :=
  .ofFixed _ rfl 2 rfl (by decide) rfl

theorem RequestLengthAccepted.stats (h : Head) (clearPort : Byte) (clearHub : Byte) :
    RequestLengthAccepted.Statement (.stats h clearPort clearHub) :=
  .ofFixed _ rfl 2 rfl (by decide) rfl

theorem RequestLengthAccepted.linkTruncated (port : Port) (bytes : List Byte) :
    RequestLengthAccepted.Statement (.linkTruncated port bytes) :=
  .ofNone rfl

theorem RequestLengthAccepted.linkCrc (port : Port) (bytes : List Byte) :
    RequestLengthAccepted.Statement (.linkCrc port bytes) :=
  .ofNone rfl

theorem RequestLengthAccepted.badCommand (h : Head) (code : Byte) (args : List Byte) :
    RequestLengthAccepted.Statement (.badCommand h code args) := by
  intro hw r hr
  cases hr
  simpa [Instr.wellFormed, refusedAtFirstCheck, isRefusedFrame, and_comm] using hw

theorem RequestLengthAccepted.transactionTooSoon (port : Port) :
    RequestLengthAccepted.Statement (.transactionTooSoon port) :=
  .ofNone rfl

theorem RequestLengthAccepted.resetNAssert : RequestLengthAccepted.Statement .resetNAssert :=
  .ofNone rfl

theorem RequestLengthAccepted.resetNRelease : RequestLengthAccepted.Statement .resetNRelease :=
  .ofNone rfl

theorem RequestLengthAccepted.resetNShortPulse : RequestLengthAccepted.Statement .resetNShortPulse :=
  .ofNone rfl

theorem RequestLengthAccepted.tick : RequestLengthAccepted.Statement .tick :=
  .ofNone rfl

theorem RequestLengthAccepted.leaseExpiry (port : Port) (handle : Handle) :
    RequestLengthAccepted.Statement (.leaseExpiry port handle) :=
  .ofNone rfl

theorem RequestLengthAccepted.pullExpiry (requester : Port) (board : BoardIx) :
    RequestLengthAccepted.Statement (.pullExpiry requester board) :=
  .ofNone rfl

theorem RequestLengthAccepted.claimLapse : RequestLengthAccepted.Statement .claimLapse :=
  .ofNone rfl

theorem RequestLengthAccepted.silenceExpiry (port : Port) : RequestLengthAccepted.Statement (.silenceExpiry port) :=
  .ofNone rfl

theorem RequestLengthAccepted.timeBaseAdvance : RequestLengthAccepted.Statement .timeBaseAdvance :=
  .ofNone rfl

end Sys2Proof.Laws
end

