-- ==== Sys2Proof/Laws/Slots.lean ====
section
/-! SUPPORT. What the slot operations do, slot by slot: reference drops, the free list, teardown, and the next event's head. -/

namespace Sys2Proof.Laws

open Sys2Proof.Machine

/-! ### Vectors by index -/

theorem set_get {α : Type} {n : Nat} (v : Vector α n) (i j : Fin n) (x : α) :
    (v.set i x)[j] = if j = i then x else v[j] := by
  by_cases h : j = i
  · subst h; simp
  · have : (i : Nat) ≠ j := fun h' => h (Fin.ext h'.symm)
    simp [h, Vector.getElem_set_ne, this]

theorem toList_finRange {α : Type} {n : Nat} (v : Vector α n) : v.toList = (List.finRange n).map fun i => v[i] := by
  apply List.ext_getElem <;> simp

theorem toList_any {α : Type} {n : Nat} (v : Vector α n) (p : α → Bool) :
    v.toList.any p = (List.finRange n).any fun i => p v[i] := by
  rw [toList_finRange, List.any_map]; rfl

theorem toList_countP {α : Type} {n : Nat} (v : Vector α n) (p : α → Bool) :
    v.toList.countP p = (List.finRange n).countP fun i => p v[i] := by
  rw [toList_finRange, List.countP_map]; rfl

theorem portCount_zero (ps : PortSet) : portCount ps = 0 ↔ ∀ q : Port, ps[q] = false := by
  unfold portCount
  rw [toList_countP, List.countP_eq_zero]
  simp

theorem portCount_ne_zero (ps : PortSet) : portCount ps ≠ 0 ↔ ∃ q : Port, ps[q] = true := by
  rw [Ne, portCount_zero]
  simp

/-! ### Slots -/

theorem isFree_iff (sl : Slot) : sl.isFree = true ↔ sl = .free := by cases sl <;> simp [Slot.isFree]

theorem composedBy_iff {sl : Slot} {p : Port} : sl.composedBy p = true ↔ ∃ pl, sl = .composing p pl := by
  cases sl <;> simp [Slot.composedBy]

theorem dropped_isFree {sl : Slot} (h : sl.isFree = true) : sl.dropped.isFree = true := by
  cases sl <;> simp_all [Slot.isFree, Slot.dropped]

theorem iterate_dropped_isFree (k : Nat) {sl : Slot} (h : sl.isFree = true) : (Slot.dropped^[k] sl).isFree = true := by
  induction k generalizing sl with
  | zero => exact h
  | succ k ih => exact ih (dropped_isFree h)

theorem iterate_dropped_live (k : Nat) (m : Message) (hk : k ≠ 0) :
    Slot.dropped^[k] (.live m) = if m.refs ≤ k then .free else .live { m with refs := m.refs - k } := by
  induction k generalizing m with
  | zero => exact absurd rfl hk
  | succ k ih =>
    rw [Function.iterate_succ_apply]
    simp only [Slot.dropped]
    by_cases h : m.refs ≤ 1
    · rw [if_pos h, if_pos (by omega)]
      clear ih hk
      induction k with
      | zero => rfl
      | succ k ih => exact ih
    · rw [if_neg h]
      rcases Nat.eq_zero_or_pos k with rfl | hk'
      · simp [h]
      · rw [ih _ (by omega)]
        by_cases h2 : m.refs ≤ k + 1
        · rw [if_pos (by simp only; omega), if_pos h2]
        · rw [if_neg (by simp only; omega), if_neg h2]
          congr 2
          simp only
          omega

/-- Each slot after the reference drops of one event has lost one reference for every time it is listed (R14). -/
theorem dropAll_get (refs : List SlotIx) (slots : Vector Slot 256) (i : SlotIx) :
    (dropAll slots refs)[i] = Slot.dropped^[refs.count i] slots[i] := by
  induction refs generalizing slots with
  | nil => rfl
  | cons a l ih =>
    have : dropAll slots (a :: l) = dropAll (slots.set a slots[a].dropped) l := rfl
    rw [this, ih, List.count_cons, set_get]
    by_cases h : a = i
    · subst h; simp
    · simp [h, Ne.symm h]

theorem freeComposing_get (p : Port) (slots : Vector Slot 256) (i : SlotIx) :
    (freeComposing p slots)[i] = if slots[i].composedBy p then .free else slots[i] := by
  simp [freeComposing]

theorem mem_newlyFree (before after : Vector Slot 256) (i : SlotIx) :
    i ∈ newlyFree before after ↔ before[i].isFree = false ∧ after[i].isFree = true := by
  simp [newlyFree]

theorem newlyFree_nodup (before after : Vector Slot 256) : (newlyFree before after).Nodup :=
  (List.nodup_finRange _).filter _

@[simp] theorem after_slots (pl : Pool) (slots : Vector Slot 256) : (pl.after slots).slots = slots := rfl
@[simp] theorem after_poolEmpty (pl : Pool) (slots : Vector Slot 256) : (pl.after slots).poolEmpty = pl.poolEmpty := rfl
theorem after_freeList (pl : Pool) (slots : Vector Slot 256) :
    (pl.after slots).freeList = pl.freeList ++ newlyFree pl.slots slots := rfl

/-- Where the free list holds exactly the FREE slots, and the event takes none of them, it still does (R2, R4). -/
theorem after_exact {pl : Pool} {slots : Vector Slot 256} (hn : pl.freeList.Nodup)
    (hm : ∀ i : SlotIx, i ∈ pl.freeList ↔ pl.slots[i].isFree = true)
    (hf : ∀ i : SlotIx, pl.slots[i].isFree = true → slots[i].isFree = true) :
    (pl.after slots).freeList.Nodup ∧ ∀ i : SlotIx, i ∈ (pl.after slots).freeList ↔ slots[i].isFree = true := by
  constructor
  · rw [after_freeList, List.nodup_append]
    refine ⟨hn, newlyFree_nodup _ _, ?_⟩
    rintro a ha b hb rfl
    rw [mem_newlyFree, (hm a).1 ha] at hb
    simp at hb
  · intro i
    rw [after_freeList, List.mem_append, hm, mem_newlyFree]
    constructor
    · rintro (h | ⟨_, h⟩)
      · exact hf i h
      · exact h
    · intro h
      cases hb : pl.slots[i].isFree
      · exact .inr ⟨rfl, h⟩
      · exact .inl rfl

/-- The pool after a session's teardown, in one expression (R17, R83). -/
theorem teardown_pool_eq (s : State) (p : Port) (d : Bool) :
    (s.teardown p d).pool =
      s.pool.after (dropAll (freeComposing p s.pool.slots) (s.queues[p].tornRefs d)) := by
  simp [State.teardown]

/-- The message of a LIVE slot is the one it carries. -/
theorem message_live {s : State} {i : SlotIx} {m : Message} (h : s.pool.slots[i] = .live m) : s.message i = m := by
  unfold State.message; rw [h]

end Sys2Proof.Laws
end

