-- ==== Sys2Proof/Laws/Queues.lean ====
section
/-! SUPPORT. What the queue operations do: next entry, handles, places by sequence, eviction, the governing rule and pulls. -/

namespace Sys2Proof.Laws

open Sys2Proof.Machine

/-! ### Lanes and hands -/

theorem nextEntry_urgent {q : Queue} {e : Entry} {es : List Entry} (h : q.urgent = e :: es) :
    q.nextEntry = some e ∧ q.popNext = { q with urgent := es } := by
  simp [Queue.nextEntry, Queue.popNext, h]

theorem nextEntry_normal {q : Queue} {e : Entry} {es : List Entry} (hu : q.urgent = []) (h : q.normal = e :: es) :
    q.nextEntry = some e ∧ q.popNext = { q with normal := es } := by
  simp [Queue.nextEntry, Queue.popNext, hu, h]

theorem lowestFree_some {q : Queue} {k : Handle} (h : q.hand[k] = none)
    (hj : ∀ j : Handle, j < k → q.hand[j] ≠ none) : q.lowestFree = some k := by
  unfold Queue.lowestFree
  rw [List.find?_eq_some_iff_getElem]
  refine ⟨by rw [h]; rfl, k.val, by simp, by simp, fun j hk => ?_⟩
  have := hj ⟨j, by omega⟩ hk
  simp only [List.getElem_finRange]
  cases hx : q.hand[(⟨j, by omega⟩ : Handle)] with
  | none => exact absurd hx this
  | some x => simpa using congrArg (fun o => !o.isNone) hx

theorem handCount_zero (q : Queue) : q.handCount = 0 ↔ ∀ k : Handle, q.hand[k] = none := by
  unfold Queue.handCount Queue.handEntries
  rw [List.length_eq_zero_iff, List.filterMap_eq_nil_iff, toList_finRange]
  simp

theorem freeHandle_handCount (q : Queue) (k : Handle) :
    (q.freeHandle k).handCount = 0 ↔ ∀ j : Handle, j ≠ k → q.hand[j] = none := by
  rw [handCount_zero]
  simp only [Queue.freeHandle, set_get]
  constructor
  · intro h j hk; have := h j; rwa [if_neg hk] at this
  · intro h j
    split
    · rfl
    · exact h j ‹_›

/-- An entry goes back before the first entry with a greater sequence, or to the tail (R76). -/
theorem insertBySequence_split (e : Entry) (l : List Entry) :
    ∃ xs ys, l = xs ++ ys ∧ insertBySequence e l = xs ++ e :: ys ∧ (∀ x ∈ xs, ¬e.sequence < x.sequence) ∧
      ∀ y ys', ys = y :: ys' → e.sequence < y.sequence := by
  induction l with
  | nil => exact ⟨[], [], rfl, rfl, by simp, by simp⟩
  | cons x xs ih =>
    unfold insertBySequence
    by_cases h : e.sequence < x.sequence
    · rw [if_pos h]; exact ⟨[], x :: xs, rfl, rfl, by simp, by rintro y ys' h'; cases h'; exact h⟩
    · rw [if_neg h]
      obtain ⟨as, bs, h1, h2, h3, h4⟩ := ih
      exact ⟨x :: as, bs, by simp [h1], by simp [h2],
        by simp only [List.mem_cons, forall_eq_or_imp]; exact ⟨h, h3⟩, h4⟩

theorem insertBySequence_perm (e : Entry) (l : List Entry) : (insertBySequence e l).Perm (e :: l) := by
  obtain ⟨xs, ys, h1, h2, -, -⟩ := insertBySequence_split e l
  rw [h2, h1]
  exact List.perm_middle

/-! ### Delivery (R49 to R53) -/

theorem append_eq (q : Queue) (e : Entry) :
    q.append e =
      match e.lane with
      | .urgent => { q with urgent := q.urgent ++ [e] }
      | .normal => { q with normal := q.normal ++ [e] } := by
  unfold Queue.append Queue.setLane Queue.lane
  cases e.lane <;> rfl

theorem evict_none {q : Queue} (l : Lane) (hu : q.urgent = []) (hn : q.normal = []) : q.evict l = none := by
  cases l <;> simp [Queue.evict, Queue.lane, Lane.other, hu, hn]

theorem deliver_room (q : Queue) (f : FullPolicy) (e : Entry) :
    q.deliver false f e = { queue := q.append e, delivered := true, evicted := none, lost := false } := rfl

theorem evictedSlots_count (ds : PerPort Delivery) (i : SlotIx) :
    (evictedSlots ds).count i = (List.finRange 4).countP fun q => decide (ds[q].evicted = some i) := by
  unfold evictedSlots
  rw [toList_finRange, List.filterMap_map, List.count_filterMap]
  apply List.countP_congr
  intro q _
  simp

/-! ### Matching (R23 to R25) -/

theorem tagTest_iff (r : Rule) (tag : Half) :
    r.tagTest tag = true ↔ ∀ k, k < 16 → r.mask.getLsbD k = true → tag.getLsbD k = r.tag.getLsbD k := by
  simp only [Rule.tagTest, decide_eq_true_eq]
  constructor
  · intro h k hk hm
    have := congrArg (fun x => x.getLsbD k) h
    simpa [hm] using this
  · intro h
    apply BitVec.eq_of_getLsbD_eq
    intro k hk
    simp only [BitVec.getLsbD_and]
    cases hm : r.mask.getLsbD k
    · simp
    · simp [h k hk hm]

/-- The governing rule stands in the table, applies, and no rule before it does. -/
theorem govern_some {t : Table} {tag : Half} {author : Port} {r : Rule} (h : t.govern tag author = some r) :
    ∃ i : RuleIx, t.rules[i] = r ∧ r.applies tag author = true ∧
      ∀ j : RuleIx, j < i → t.rules[j].applies tag author = false := by
  unfold Table.govern at h
  rw [List.find?_eq_some_iff_getElem] at h
  obtain ⟨h1, i, hi, h2, h3⟩ := h
  have hi' : i < 64 := by simpa using hi
  refine ⟨⟨i, hi'⟩, by simpa using h2, h1, fun j hj => ?_⟩
  have := h3 j hj
  simpa using this

/-! ### Pulls -/

theorem hasWaiting_iff (s : State) (p : Port) (b : BoardIx) :
    s.hasWaiting p b = true ↔ ∃ e ∈ s.pulls, e.requester = p ∧ e.board = b ∧ ∃ x, e.state = .waiting x := by
  unfold State.hasWaiting
  rw [List.any_eq_true]
  refine exists_congr fun e => and_congr_right fun _ => ?_
  obtain ⟨r, bb, st⟩ := e
  cases st <;> simp [Pull.isFor, Pull.isWaiting]

theorem hasDone_iff (s : State) (p : Port) (b : BoardIx) :
    s.hasDone p b = true ↔ ∃ e ∈ s.pulls, e.requester = p ∧ e.board = b ∧ ∃ o, e.state = .done o := by
  unfold State.hasDone
  rw [List.any_eq_true]
  refine exists_congr fun e => and_congr_right fun _ => ?_
  obtain ⟨r, bb, st⟩ := e
  cases st <;> simp [Pull.isFor, Pull.isWaiting]

/-- A list without the one element the filter refuses. -/
theorem filter_one {α : Type} {before after : List α} {e : α} {f : α → Bool} (h1 : f e = false)
    (h2 : ∀ x ∈ before ++ after, f x = true) : (before ++ e :: after).filter f = before ++ after := by
  rw [← List.filter_eq_self] at h2
  rw [List.filter_append] at h2 ⊢
  rw [List.filter_cons, h1]
  simpa using h2

end Sys2Proof.Laws
end

