-- ==== Sys2Proof/Laws/Requests.lean ====
section
/-! SUPPORT. The path of a request: hearing, duplicates, the session check, the operand checks, the claim check. -/

namespace Sys2Proof.Laws

open Sys2Proof.Machine

/-! ### Hearing -/

theorem hear_phase (s : State) (p : Port) :
    (s.hear p).sessions[p].phase = s.sessions[p].phase.mapConn fun c => c.heard s.timeBase := by
  simp [State.hear_sessions]

theorem hear_phase_other (s : State) {p q : Port} (h : q ≠ p) : (s.hear p).sessions[q] = s.sessions[q] := by
  rw [State.hear_sessions, set_get, if_neg h]

theorem hear_opened {s : State} {p : Port} {c : Conn} (h : s.sessions[p].phase = .opened c) :
    (s.hear p).sessions[p].phase = .opened (c.heard s.timeBase) := by rw [hear_phase, h]; rfl

theorem hear_closing {s : State} {p : Port} {c : Conn} (h : s.sessions[p].phase = .closing c) :
    (s.hear p).sessions[p].phase = .closing (c.heard s.timeBase) := by rw [hear_phase, h]; rfl

theorem hear_closed {s : State} {p : Port} (h : s.sessions[p].phase = .closed) :
    (s.hear p).sessions[p].phase = .closed := by rw [hear_phase, h]; rfl

theorem hear_fenced {s : State} {p : Port} (h : s.sessions[p].phase = .fenced) :
    (s.hear p).sessions[p].phase = .fenced := by rw [hear_phase, h]; rfl

@[simp] theorem hear_isOpen (s : State) (p q : Port) : (s.hear p).isOpen q = s.isOpen q := by
  unfold State.isOpen
  by_cases h : q = p
  · subst h; rw [hear_phase]; cases s.sessions[q].phase <;> rfl
  · rw [hear_phase_other s h]

theorem isOpen_of_opened {s : State} {p : Port} {c : Conn} (h : s.sessions[p].phase = .opened c) :
    s.isOpen p = true := by
  unfold State.isOpen; rw [h]; rfl

theorem setPhase_isOpen (s : State) (p q : Port) (ph : Phase) :
    (s.setPhase p ph).isOpen q = if q = p then ph.isOpen else s.isOpen q := by
  simp only [State.isOpen, State.setPhase, State.setSession, set_get]
  split <;> rfl

/-! ### The three ways of a request that passed its first check (R166, R169, R173) -/

theorem request_inReset {s : State} (h : Head) (code : Byte) (act : Action) (hr : s.resetN = false) :
    s.request h code act = s := by simp [State.request, hr]

theorem request_duplicate {s : State} {h : Head} {code : Byte} (act : Action) (hr : s.resetN = true)
    (hd : s.isDuplicate h code = true) :
    s.request h code act = ((s.hear h.port).replay h.port).settle := by simp [State.request, hr, hd]

/-- An executed request: what the action answers on the state that heard it, answered and settled (R166, R170). -/
theorem request_executed {s : State} {h : Head} {code : Byte} {act : Action} {r : Reply} {u : State}
    (hr : s.resetN = true) (hd : s.isDuplicate h code = false) (hu : act (s.hear h.port) = (r, u)) :
    s.request h code act = (u.answer h code r).settle := by
  simp [State.request, hr, hd, State.execute, hu]

theorem isDuplicate_false {s : State} {h : Head} {code : Byte}
    (hf : ¬(s.links[h.port].lastNumber = some h.number ∧ s.links[h.port].lastExecuted.command = code)) :
    s.isDuplicate h code = false := by
  simp only [State.isDuplicate]
  simpa using fun a b => hf ⟨a, b⟩

theorem event_inReset {s : State} (f : State → State) (hr : s.resetN = false) : s.event f = s := by
  simp [State.event, hr]

theorem event_taken {s : State} (f : State → State) (hr : s.resetN = true) : s.event f = (f s).settle := by
  simp [State.event, hr]

/-! ### The session check on a state that has heard the request (R136) -/

theorem whenOpen_opened {s : State} {p : Port} {c : Conn} {act : Conn → Action} (h : s.sessions[p].phase = .opened c) :
    whenOpen p act (s.hear p) = act (c.heard s.timeBase) (s.hear p) := by
  simp only [whenOpen, hear_opened h]

theorem whenInSession_opened {s : State} {p : Port} {c : Conn} {act act' : Conn → Action}
    (h : s.sessions[p].phase = .opened c) :
    whenInSession p act act' (s.hear p) = act (c.heard s.timeBase) (s.hear p) := by
  simp only [whenInSession, hear_opened h]

theorem whenInSession_closing {s : State} {p : Port} {c : Conn} {act act' : Conn → Action}
    (h : s.sessions[p].phase = .closing c) :
    whenInSession p act act' (s.hear p) = act' (c.heard s.timeBase) (s.hear p) := by
  simp only [whenInSession, hear_closing h]

/-! ### The operand checks (R166 step 5) -/

@[simp] theorem withArgument_some {α : Type} (a : α) (act : α → Action) : withArgument (some a) act = act a := rfl
@[simp] theorem withArgument_none {α : Type} (act : α → Action) : withArgument none act = refuse .badArgument := rfl

theorem indexOf_some {n : Nat} {b : Byte} {i : Fin n} (h : b.toNat = i.val) : indexOf n b = some i := by
  simp [indexOf, h]

theorem indexOf_none {n : Nat} {b : Byte} (h : n ≤ b.toNat) : indexOf n b = none := by
  simp [indexOf]; omega

theorem choiceOf_none {b : Byte} (h : 1 < b.toNat) : choiceOf b = none := by
  unfold choiceOf; split <;> simp_all

theorem selectorOf_none {b : Byte} (h : 1 < b.toNat) : selectorOf b = none := by
  unfold selectorOf; split <;> simp_all

theorem limitInForce_none {v : Byte} {d m : Nat} (h : m < v.toNat) : limitInForce d m v = none := by
  unfold limitInForce
  have : v ≠ 0#8 := by rintro rfl; simp at h
  rw [if_neg this, if_neg (by omega)]

theorem reasonsOf_none {r : Half} {k : Nat} (h10 : 10 ≤ k) (h15 : k ≤ 15) (hk : r.getLsbD k = true) :
    reasonsOf r = none := by
  have : reasonsInRange r = false := by
    simp only [reasonsInRange, decide_eq_false_iff_not]
    intro h0
    have := congrArg (fun x => x.getLsbD k) h0
    simp only [BitVec.getLsbD_and, hk, Bool.true_and] at this
    interval_cases k <;> simp at this
  simp [reasonsOf, this]

theorem reasonsOf_some {r : Half} (h : ∀ k, 10 ≤ k → k ≤ 15 → r.getLsbD k = false) : reasonsOf r = some r := by
  have : reasonsInRange r = true := by
    simp only [reasonsInRange, decide_eq_true_eq]
    apply BitVec.eq_of_getLsbD_eq
    intro k hk
    rw [BitVec.getLsbD_and]
    by_cases h10 : 10 ≤ k
    · simp [h k h10 (by omega)]
    · interval_cases k <;> simp
  simp [reasonsOf, this]

/-! ### The hand check and the claim check (R69, R122) -/

theorem withHandEntry_holds {s : State} {p : Port} {k : Handle} {n : Seq} {act : HandEntry → Action} {x : HandEntry}
    (h : s.queues[p].hand[k] = some x) (hn : x.entry.sequence = n) : withHandEntry p k n act s = act x s := by
  unfold withHandEntry; rw [h]; exact if_pos hn

theorem withHandEntry_stale {s : State} {p : Port} {k : Handle} {n : Seq} {act : HandEntry → Action}
    (h : ∀ x, s.queues[p].hand[k] = some x → x.entry.sequence ≠ n) :
    withHandEntry p k n act s = refuse .staleHandle s := by
  unfold withHandEntry
  split
  · rw [if_neg (h _ ‹_›)]
  · rfl

theorem whenHolder_holder {s : State} {p : Port} {act : Claim → Action} {c : Claim} (h : s.claim = some c)
    (hh : c.holder = p) : whenHolder p act s = act c s := by simp [whenHolder, h, hh]

theorem whenHolder_other {s : State} {p : Port} {act : Claim → Action}
    (h : ∀ c, s.claim = some c → c.holder ≠ p) : whenHolder p act s = refuse .notHolder s := by
  unfold whenHolder
  split
  · rw [if_neg (h _ ‹_›)]
  · rfl

end Sys2Proof.Laws
end

