-- ==== Sys2Proof/Laws/Transactions.lean ====
section
/-! SUPPORT. Transactions bit by bit: what bits gather to, what a port drives, and what a reset on the way leaves of both. -/

namespace Sys2Proof.Laws

/-! ### Gathering (R161, R163) -/

@[simp] theorem bitsOf_length (b : Byte) : (bitsOf b).length = 8 := by simp [bitsOf]

theorem byteOf_bitsOf (b : Byte) : byteOf (bitsOf b) = b := by
  revert b; decide +kernel

/-- Fewer than eight bits are dropped. -/
theorem gather_short (rest : List Bool) (h : rest.length < 8) : gather rest = [] := by
  unfold gather
  split
  · simp at h; omega
  · rfl

/-- Eight bits more are one byte more. -/
theorem gather_bitsOf (b : Byte) (rest : List Bool) : gather (bitsOf b ++ rest) = b :: gather rest := by
  conv_rhs => rw [← byteOf_bitsOf b]
  rfl

theorem gather_flatMap_bitsOf (bytes : List Byte) (rest : List Bool) (h : rest.length < 8) :
    gather (bytes.flatMap bitsOf ++ rest) = bytes := by
  induction bytes with
  | nil => exact gather_short rest h
  | cons b bs ih => rw [List.flatMap_cons, List.append_assoc, gather_bitsOf, ih]

/-! ### Driving (R161, R173) -/

/-- One bit for each rising edge of the clock. -/
theorem drive_length (out : List Bool) (es : List LinkEdge) :
    (drive out es).length = (es.filterMap LinkEdge.bit?).length := by
  induction es generalizing out with
  | nil => rfl
  | cons e es ih => cases e <;> simp [drive, LinkEdge.bit?, List.filterMap_cons, ih]

theorem drive_append (out : List Bool) (es es' : List LinkEdge) :
    drive out (es ++ es') = drive out es ++ drive (es.foldl LinkEdge.shift out) es' := by
  induction es generalizing out with
  | nil => rfl
  | cons e es ih => simp [drive, ih]

theorem shift_nil (e : LinkEdge) : e.shift [] = [] := by cases e <;> simp [LinkEdge.shift]

/-- With nothing to drive every bit reads 0. -/
theorem drive_nil (es : List LinkEdge) : drive [] es = List.replicate (es.filterMap LinkEdge.bit?).length false := by
  induction es with
  | nil => rfl
  | cons e es ih => rw [drive, shift_nil, ih]; cases e <;> rfl

/-- An edge that loses the transaction leaves nothing to drive. -/
theorem shift_of_loses (out : List Bool) (e : LinkEdge) (h : e.loses = true) : e.shift out = [] := by
  cases e <;> simp_all [LinkEdge.shift, LinkEdge.loses]

/-! ### Reception (R162, R173) -/

@[simp] theorem received_iff (t : Transaction) :
    t.received = true ↔ t.startsInTime = true ∧ ∀ e ∈ t.edges, e.loses = false := by
  simp [Transaction.received]

theorem command_of_received (t : Transaction) (h : t.received = true) : t.command = commandOf t.port t.dataIn := by
  simp only [Transaction.command, h, if_true]

theorem command_of_not_received (t : Transaction) (h : t.received = false) :
    t.command = .transactionTooSoon t.port := by
  simp [Transaction.command, h]

end Sys2Proof.Laws
end

