-- ==== Sys2Proof/Laws/Updates.lean ====
section
/-! SUPPORT. The fields of the state after the longer updates: teardown, fence, the hand discarded, the CLOSING hand drained, a
lapsed entry discarded, a commit, a pin reset. -/

namespace Sys2Proof.Machine

/-- Losing a supplier reads the active table and nothing else of the state. -/
theorem State.loseSupplier_congr {s t : State} (h : t.table = s.table) (p : Port) :
    t.loseSupplier p = s.loseSupplier p := by
  funext e
  simp only [State.loseSupplier, h]

/-! ### teardown -/

@[simp] theorem State.teardown_pending (s : State) (p : Port) (d : Bool) :
    (s.teardown p d).pending = s.pending := by
  simp [State.teardown]

@[simp] theorem State.teardown_resetN (s : State) (p : Port) (d : Bool) :
    (s.teardown p d).resetN = s.resetN := by
  simp [State.teardown]

@[simp] theorem State.teardown_timeBase (s : State) (p : Port) (d : Bool) :
    (s.teardown p d).timeBase = s.timeBase := by
  simp [State.teardown]

@[simp] theorem State.teardown_tickPhase (s : State) (p : Port) (d : Bool) :
    (s.teardown p d).tickPhase = s.tickPhase := by
  simp [State.teardown]

@[simp] theorem State.teardown_pool (s : State) (p : Port) (d : Bool) :
    (s.teardown p d).pool = s.pool.after (dropAll (freeComposing p s.pool.slots) (s.queues[p].tornRefs d)) := by
  simp [State.teardown]

@[simp] theorem State.teardown_table (s : State) (p : Port) (d : Bool) :
    (s.teardown p d).table = s.table := by
  simp [State.teardown]

@[simp] theorem State.teardown_generation (s : State) (p : Port) (d : Bool) :
    (s.teardown p d).generation = s.generation := by
  simp [State.teardown]

@[simp] theorem State.teardown_sequence (s : State) (p : Port) (d : Bool) :
    (s.teardown p d).sequence = s.sequence := by
  simp [State.teardown]

@[simp] theorem State.teardown_undelivered (s : State) (p : Port) (d : Bool) :
    (s.teardown p d).undelivered = s.undelivered := by
  simp [State.teardown]

@[simp] theorem State.teardown_claim (s : State) (p : Port) (d : Bool) :
    (s.teardown p d).claim = s.claim.filter fun c => decide (c.holder ≠ p) := by
  simp [State.teardown]

@[simp] theorem State.teardown_queues (s : State) (p : Port) (d : Bool) :
    (s.teardown p d).queues = s.queues.set p
      (if d then
        { s.queues[p] with
          urgent := []
          normal := []
          hand := Vector.replicate 4 none
          discard := satAdd s.queues[p].discard s.queues[p].handCount }
       else { s.queues[p] with urgent := [], normal := [] }) := by
  simp only [State.teardown, State.setLatched_queues, State.tearClaim_queues, State.tearPulls_queues,
    State.tearBoards_queues, State.tearQueue_queues, State.tearSlots_queues]

@[simp] theorem State.teardown_boards (s : State) (p : Port) (d : Bool) :
    (s.teardown p d).boards = s.boards.map (Board.forget p) := by
  simp [State.teardown]

@[simp] theorem State.teardown_pulls (s : State) (p : Port) (d : Bool) :
    (s.teardown p d).pulls = (s.pulls.filter fun e => decide (e.requester ≠ p)).map (s.loseSupplier p) := by
  simp only [State.teardown, State.setLatched_pulls, State.tearClaim_pulls, State.tearPulls_pulls,
    State.tearBoards_pulls, State.tearQueue_pulls, State.tearSlots_pulls]
  rfl

@[simp] theorem State.teardown_wanted (s : State) (p : Port) (d : Bool) :
    (s.teardown p d).wanted = s.wanted := by
  simp [State.teardown]

@[simp] theorem State.teardown_links (s : State) (p : Port) (d : Bool) :
    (s.teardown p d).links = s.links := by
  simp [State.teardown]

@[simp] theorem State.teardown_sessions (s : State) (p : Port) (d : Bool) :
    (s.teardown p d).sessions = s.sessions := by
  simp [State.teardown]

@[simp] theorem State.teardown_attention (s : State) (p : Port) (d : Bool) :
    (s.teardown p d).attention = s.attention.set p { s.attention[p] with latched := .clear } := by
  simp only [State.teardown, State.setLatched_attention, State.tearClaim_attention, State.tearPulls_attention,
    State.tearBoards_attention, State.tearQueue_attention, State.tearSlots_attention]

@[simp] theorem State.teardown_pulses (s : State) (p : Port) (d : Bool) :
    (s.teardown p d).pulses = s.pulses := by
  simp [State.teardown]

/-! ### fence -/

@[simp] theorem State.fence_pending (s : State) (p : Port) : (s.fence p).pending = (s.teardown p true).pending := rfl

@[simp] theorem State.fence_resetN (s : State) (p : Port) : (s.fence p).resetN = (s.teardown p true).resetN := rfl

@[simp] theorem State.fence_timeBase (s : State) (p : Port) : (s.fence p).timeBase = (s.teardown p true).timeBase := rfl

@[simp] theorem State.fence_tickPhase (s : State) (p : Port) :
    (s.fence p).tickPhase = (s.teardown p true).tickPhase := rfl

@[simp] theorem State.fence_pool (s : State) (p : Port) : (s.fence p).pool = (s.teardown p true).pool := rfl

@[simp] theorem State.fence_table (s : State) (p : Port) : (s.fence p).table = (s.teardown p true).table := rfl

@[simp] theorem State.fence_generation (s : State) (p : Port) :
    (s.fence p).generation = (s.teardown p true).generation := rfl

@[simp] theorem State.fence_sequence (s : State) (p : Port) : (s.fence p).sequence = (s.teardown p true).sequence := rfl

@[simp] theorem State.fence_undelivered (s : State) (p : Port) :
    (s.fence p).undelivered = (s.teardown p true).undelivered := rfl

@[simp] theorem State.fence_claim (s : State) (p : Port) : (s.fence p).claim = (s.teardown p true).claim := rfl

@[simp] theorem State.fence_queues (s : State) (p : Port) : (s.fence p).queues = (s.teardown p true).queues := rfl

@[simp] theorem State.fence_boards (s : State) (p : Port) : (s.fence p).boards = (s.teardown p true).boards := rfl

@[simp] theorem State.fence_pulls (s : State) (p : Port) : (s.fence p).pulls = (s.teardown p true).pulls := rfl

@[simp] theorem State.fence_wanted (s : State) (p : Port) : (s.fence p).wanted = (s.teardown p true).wanted := rfl

@[simp] theorem State.fence_links (s : State) (p : Port) : (s.fence p).links = (s.teardown p true).links := rfl

@[simp] theorem State.fence_sessions (s : State) (p : Port) :
    (s.fence p).sessions = s.sessions.set p { s.sessions[p] with phase := .fenced } := by
  simp [State.fence]

@[simp] theorem State.fence_attention (s : State) (p : Port) :
    (s.fence p).attention = (s.teardown p true).attention := rfl

@[simp] theorem State.fence_pulses (s : State) (p : Port) : (s.fence p).pulses = (s.teardown p true).pulses := rfl

/-! ### discardHand -/

@[simp] theorem State.discardHand_pending (s : State) (p : Port) :
    (s.discardHand p).pending = s.pending := by
  simp [State.discardHand]

@[simp] theorem State.discardHand_resetN (s : State) (p : Port) :
    (s.discardHand p).resetN = s.resetN := by
  simp [State.discardHand]

@[simp] theorem State.discardHand_timeBase (s : State) (p : Port) :
    (s.discardHand p).timeBase = s.timeBase := by
  simp [State.discardHand]

@[simp] theorem State.discardHand_tickPhase (s : State) (p : Port) :
    (s.discardHand p).tickPhase = s.tickPhase := by
  simp [State.discardHand]

@[simp] theorem State.discardHand_pool (s : State) (p : Port) :
    (s.discardHand p).pool = s.pool.drop (s.queues[p].handEntries.map fun x => x.entry.slot) := by
  simp [State.discardHand]

@[simp] theorem State.discardHand_table (s : State) (p : Port) :
    (s.discardHand p).table = s.table := by
  simp [State.discardHand]

@[simp] theorem State.discardHand_generation (s : State) (p : Port) :
    (s.discardHand p).generation = s.generation := by
  simp [State.discardHand]

@[simp] theorem State.discardHand_sequence (s : State) (p : Port) :
    (s.discardHand p).sequence = s.sequence := by
  simp [State.discardHand]

@[simp] theorem State.discardHand_undelivered (s : State) (p : Port) :
    (s.discardHand p).undelivered = s.undelivered := by
  simp [State.discardHand]

@[simp] theorem State.discardHand_claim (s : State) (p : Port) :
    (s.discardHand p).claim = s.claim := by
  simp [State.discardHand]

@[simp] theorem State.discardHand_queues (s : State) (p : Port) :
    (s.discardHand p).queues = s.queues.set p { s.queues[p] with hand := Vector.replicate 4 none, discard := satAdd s.queues[p].discard s.queues[p].handCount } := by
  simp [State.discardHand]

@[simp] theorem State.discardHand_boards (s : State) (p : Port) :
    (s.discardHand p).boards = s.boards := by
  simp [State.discardHand]

@[simp] theorem State.discardHand_pulls (s : State) (p : Port) :
    (s.discardHand p).pulls = s.pulls := by
  simp [State.discardHand]

@[simp] theorem State.discardHand_wanted (s : State) (p : Port) :
    (s.discardHand p).wanted = s.wanted := by
  simp [State.discardHand]

@[simp] theorem State.discardHand_links (s : State) (p : Port) :
    (s.discardHand p).links = s.links := by
  simp [State.discardHand]

@[simp] theorem State.discardHand_sessions (s : State) (p : Port) :
    (s.discardHand p).sessions = s.sessions := by
  simp [State.discardHand]

@[simp] theorem State.discardHand_attention (s : State) (p : Port) :
    (s.discardHand p).attention = s.attention.set p { s.attention[p] with latched := .clear } := by
  simp [State.discardHand]

@[simp] theorem State.discardHand_pulses (s : State) (p : Port) :
    (s.discardHand p).pulses = s.pulses := by
  simp [State.discardHand]

/-! ### drained -/

/-- What draining can do: nothing, or the session of a CLOSING port with an empty hand ends (R147). -/
theorem State.drained_cases (s : State) (p : Port) :
    (s.drained p = s ∧ ∀ c, s.sessions[p].phase = .closing c → s.queues[p].handCount ≠ 0) ∨
      (s.drained p = (s.setPhase p .closed).setLatched p .clear ∧ s.queues[p].handCount = 0 ∧
        ∃ c, s.sessions[p].phase = .closing c) := by
  unfold State.drained
  split
  · rename_i c hc
    split
    · exact .inr ⟨rfl, ‹_›, c, hc⟩
    · exact .inl ⟨rfl, fun _ _ => ‹_›⟩
  · rename_i hn
    exact .inl ⟨rfl, fun c hc => absurd hc (hn c)⟩

@[simp] theorem State.drained_pending (s : State) (p : Port) : (s.drained p).pending = s.pending := by
  rcases s.drained_cases p with ⟨h, _⟩ | ⟨h, _⟩ <;> simp [h]

@[simp] theorem State.drained_resetN (s : State) (p : Port) : (s.drained p).resetN = s.resetN := by
  rcases s.drained_cases p with ⟨h, _⟩ | ⟨h, _⟩ <;> simp [h]

@[simp] theorem State.drained_timeBase (s : State) (p : Port) : (s.drained p).timeBase = s.timeBase := by
  rcases s.drained_cases p with ⟨h, _⟩ | ⟨h, _⟩ <;> simp [h]

@[simp] theorem State.drained_tickPhase (s : State) (p : Port) : (s.drained p).tickPhase = s.tickPhase := by
  rcases s.drained_cases p with ⟨h, _⟩ | ⟨h, _⟩ <;> simp [h]

@[simp] theorem State.drained_pool (s : State) (p : Port) : (s.drained p).pool = s.pool := by
  rcases s.drained_cases p with ⟨h, _⟩ | ⟨h, _⟩ <;> simp [h]

@[simp] theorem State.drained_table (s : State) (p : Port) : (s.drained p).table = s.table := by
  rcases s.drained_cases p with ⟨h, _⟩ | ⟨h, _⟩ <;> simp [h]

@[simp] theorem State.drained_generation (s : State) (p : Port) : (s.drained p).generation = s.generation := by
  rcases s.drained_cases p with ⟨h, _⟩ | ⟨h, _⟩ <;> simp [h]

@[simp] theorem State.drained_sequence (s : State) (p : Port) : (s.drained p).sequence = s.sequence := by
  rcases s.drained_cases p with ⟨h, _⟩ | ⟨h, _⟩ <;> simp [h]

@[simp] theorem State.drained_undelivered (s : State) (p : Port) : (s.drained p).undelivered = s.undelivered := by
  rcases s.drained_cases p with ⟨h, _⟩ | ⟨h, _⟩ <;> simp [h]

@[simp] theorem State.drained_claim (s : State) (p : Port) : (s.drained p).claim = s.claim := by
  rcases s.drained_cases p with ⟨h, _⟩ | ⟨h, _⟩ <;> simp [h]

@[simp] theorem State.drained_queues (s : State) (p : Port) : (s.drained p).queues = s.queues := by
  rcases s.drained_cases p with ⟨h, _⟩ | ⟨h, _⟩ <;> simp [h]

@[simp] theorem State.drained_boards (s : State) (p : Port) : (s.drained p).boards = s.boards := by
  rcases s.drained_cases p with ⟨h, _⟩ | ⟨h, _⟩ <;> simp [h]

@[simp] theorem State.drained_pulls (s : State) (p : Port) : (s.drained p).pulls = s.pulls := by
  rcases s.drained_cases p with ⟨h, _⟩ | ⟨h, _⟩ <;> simp [h]

@[simp] theorem State.drained_wanted (s : State) (p : Port) : (s.drained p).wanted = s.wanted := by
  rcases s.drained_cases p with ⟨h, _⟩ | ⟨h, _⟩ <;> simp [h]

@[simp] theorem State.drained_links (s : State) (p : Port) : (s.drained p).links = s.links := by
  rcases s.drained_cases p with ⟨h, _⟩ | ⟨h, _⟩ <;> simp [h]

@[simp] theorem State.drained_pulses (s : State) (p : Port) : (s.drained p).pulses = s.pulses := by
  rcases s.drained_cases p with ⟨h, _⟩ | ⟨h, _⟩ <;> simp [h]

/-! ### discardLapsed -/

@[simp] theorem State.discardLapsed_pending (s : State) (p : Port) (k : Handle) (e : Entry) :
    (s.discardLapsed p k e).pending = s.pending := by
  simp [State.discardLapsed]

@[simp] theorem State.discardLapsed_resetN (s : State) (p : Port) (k : Handle) (e : Entry) :
    (s.discardLapsed p k e).resetN = s.resetN := by
  simp [State.discardLapsed]

@[simp] theorem State.discardLapsed_timeBase (s : State) (p : Port) (k : Handle) (e : Entry) :
    (s.discardLapsed p k e).timeBase = s.timeBase := by
  simp [State.discardLapsed]

@[simp] theorem State.discardLapsed_tickPhase (s : State) (p : Port) (k : Handle) (e : Entry) :
    (s.discardLapsed p k e).tickPhase = s.tickPhase := by
  simp [State.discardLapsed]

@[simp] theorem State.discardLapsed_pool (s : State) (p : Port) (k : Handle) (e : Entry) :
    (s.discardLapsed p k e).pool = s.pool.drop [e.slot] := by
  simp [State.discardLapsed]

@[simp] theorem State.discardLapsed_table (s : State) (p : Port) (k : Handle) (e : Entry) :
    (s.discardLapsed p k e).table = s.table := by
  simp [State.discardLapsed]

@[simp] theorem State.discardLapsed_generation (s : State) (p : Port) (k : Handle) (e : Entry) :
    (s.discardLapsed p k e).generation = s.generation := by
  simp [State.discardLapsed]

@[simp] theorem State.discardLapsed_sequence (s : State) (p : Port) (k : Handle) (e : Entry) :
    (s.discardLapsed p k e).sequence = s.sequence := by
  simp [State.discardLapsed]

@[simp] theorem State.discardLapsed_undelivered (s : State) (p : Port) (k : Handle) (e : Entry) :
    (s.discardLapsed p k e).undelivered = s.undelivered := by
  simp [State.discardLapsed]

@[simp] theorem State.discardLapsed_claim (s : State) (p : Port) (k : Handle) (e : Entry) :
    (s.discardLapsed p k e).claim = s.claim := by
  simp [State.discardLapsed]

@[simp] theorem State.discardLapsed_queues (s : State) (p : Port) (k : Handle) (e : Entry) :
    (s.discardLapsed p k e).queues = s.queues.set p
      { s.queues[p].freeHandle k with discard := satAdd s.queues[p].discard 1 } := by
  simp [State.discardLapsed, Queue.freeHandle]

@[simp] theorem State.discardLapsed_boards (s : State) (p : Port) (k : Handle) (e : Entry) :
    (s.discardLapsed p k e).boards = s.boards := by
  simp [State.discardLapsed]

@[simp] theorem State.discardLapsed_pulls (s : State) (p : Port) (k : Handle) (e : Entry) :
    (s.discardLapsed p k e).pulls = s.pulls := by
  simp [State.discardLapsed]

@[simp] theorem State.discardLapsed_wanted (s : State) (p : Port) (k : Handle) (e : Entry) :
    (s.discardLapsed p k e).wanted = s.wanted := by
  simp [State.discardLapsed]

@[simp] theorem State.discardLapsed_links (s : State) (p : Port) (k : Handle) (e : Entry) :
    (s.discardLapsed p k e).links = s.links := by
  simp [State.discardLapsed]

@[simp] theorem State.discardLapsed_sessions (s : State) (p : Port) (k : Handle) (e : Entry) :
    (s.discardLapsed p k e).sessions = s.sessions := by
  simp [State.discardLapsed]

@[simp] theorem State.discardLapsed_attention (s : State) (p : Port) (k : Handle) (e : Entry) :
    (s.discardLapsed p k e).attention = s.attention.set p { s.attention[p] with latched := { s.attention[p].latched with discarded := true } } := by
  simp [State.discardLapsed]

@[simp] theorem State.discardLapsed_pulses (s : State) (p : Port) (k : Handle) (e : Entry) :
    (s.discardLapsed p k e).pulses = s.pulses := by
  simp [State.discardLapsed]

/-! ### commitTable -/

@[simp] theorem State.commitTable_pending (s : State) (p : Port) (t : Table) :
       (s.commitTable p t).pending = s.pending := rfl

@[simp] theorem State.commitTable_resetN (s : State) (p : Port) (t : Table) :
       (s.commitTable p t).resetN = s.resetN := rfl

@[simp] theorem State.commitTable_timeBase (s : State) (p : Port) (t : Table) :
       (s.commitTable p t).timeBase = s.timeBase := rfl

@[simp] theorem State.commitTable_tickPhase (s : State) (p : Port) (t : Table) :
       (s.commitTable p t).tickPhase = s.tickPhase := rfl

@[simp] theorem State.commitTable_pool (s : State) (p : Port) (t : Table) :
       (s.commitTable p t).pool = s.pool.drop (s.withdrawnSlots t) := rfl

@[simp] theorem State.commitTable_table (s : State) (p : Port) (t : Table) :
    (s.commitTable p t).table = t := rfl

@[simp] theorem State.commitTable_generation (s : State) (p : Port) (t : Table) :
       (s.commitTable p t).generation = s.generation + 1#16 := rfl

@[simp] theorem State.commitTable_sequence (s : State) (p : Port) (t : Table) :
       (s.commitTable p t).sequence = s.sequence := rfl

@[simp] theorem State.commitTable_undelivered (s : State) (p : Port) (t : Table) :
       (s.commitTable p t).undelivered = s.undelivered := rfl

@[simp] theorem State.commitTable_claim (s : State) (p : Port) (t : Table) :
       (s.commitTable p t).claim = none := rfl

@[simp] theorem State.commitTable_queues (s : State) (p : Port) (t : Table) :
       (s.commitTable p t).queues = s.queues := rfl

@[simp] theorem State.commitTable_boards (s : State) (p : Port) (t : Table) :
       (s.commitTable p t).boards = s.boardsAfter t := rfl

@[simp] theorem State.commitTable_pulls (s : State) (p : Port) (t : Table) :
       (s.commitTable p t).pulls = s.pulls.map (s.commitPull t) := rfl

@[simp] theorem State.commitTable_wanted (s : State) (p : Port) (t : Table) :
       (s.commitTable p t).wanted = s.wanted := rfl

@[simp] theorem State.commitTable_links (s : State) (p : Port) (t : Table) :
       (s.commitTable p t).links = s.links := rfl

@[simp] theorem State.commitTable_sessions (s : State) (p : Port) (t : Table) :
       (s.commitTable p t).sessions = s.sessions := rfl

@[simp] theorem State.commitTable_attention (s : State) (p : Port) (t : Table) :
       (s.commitTable p t).attention = (s.latchTableChanged p).attention := rfl

@[simp] theorem State.commitTable_pulses (s : State) (p : Port) (t : Table) :
       (s.commitTable p t).pulses = s.pulses := rfl

/-! ### pinReset -/

@[simp] theorem State.pinReset_pending (s : State) : s.pinReset.pending = s.pending := rfl

@[simp] theorem State.pinReset_resetN (s : State) : s.pinReset.resetN = State.reset.resetN := rfl

@[simp] theorem State.pinReset_timeBase (s : State) : s.pinReset.timeBase = State.reset.timeBase := rfl

@[simp] theorem State.pinReset_tickPhase (s : State) : s.pinReset.tickPhase = State.reset.tickPhase := rfl

@[simp] theorem State.pinReset_pool (s : State) : s.pinReset.pool = State.reset.pool := rfl

@[simp] theorem State.pinReset_table (s : State) : s.pinReset.table = State.reset.table := rfl

@[simp] theorem State.pinReset_generation (s : State) : s.pinReset.generation = State.reset.generation := rfl

@[simp] theorem State.pinReset_sequence (s : State) : s.pinReset.sequence = State.reset.sequence := rfl

@[simp] theorem State.pinReset_undelivered (s : State) : s.pinReset.undelivered = State.reset.undelivered := rfl

@[simp] theorem State.pinReset_claim (s : State) : s.pinReset.claim = State.reset.claim := rfl

@[simp] theorem State.pinReset_queues (s : State) : s.pinReset.queues = State.reset.queues := rfl

@[simp] theorem State.pinReset_boards (s : State) : s.pinReset.boards = State.reset.boards := rfl

@[simp] theorem State.pinReset_pulls (s : State) : s.pinReset.pulls = State.reset.pulls := rfl

@[simp] theorem State.pinReset_wanted (s : State) : s.pinReset.wanted = State.reset.wanted := rfl

@[simp] theorem State.pinReset_links (s : State) : s.pinReset.links = State.reset.links := rfl

@[simp] theorem State.pinReset_sessions (s : State) : s.pinReset.sessions = State.reset.sessions := rfl

@[simp] theorem State.pinReset_attention (s : State) : s.pinReset.attention = State.reset.attention := rfl

@[simp] theorem State.pinReset_pulses (s : State) : s.pinReset.pulses = s.pulses := rfl

end Sys2Proof.Machine
end

