-- ==== Sys2Proof/Laws/Views.lean ====
section
/-! SUPPORT. Views: the model's own codes and views are the ones the statements write out from the spec. -/

namespace Sys2Proof.Laws

open Sys2Proof.Machine Sys2Proof.Statements

/-! ### Codes -/

theorem le_succ (k n : Nat) : le (k + 1) n = BitVec.ofNat 8 n :: le k (n / 256) := by
  simp [le, List.range_succ_eq_map, Nat.div_div_eq_div_mul, Nat.pow_succ, Nat.mul_comm]

theorem leBytes_eq (k n : Nat) : leBytes k n = le k n := by
  induction k generalizing n with
  | zero => rfl
  | succ k ih => rw [le_succ, leBytes, ih]

theorem halfBytes_eq (h : Half) : halfBytes h = le 2 h.toNat := leBytes_eq _ _

theorem sequenceBytes_eq (q : Seq) : sequenceBytes q = le 6 q.toNat := leBytes_eq _ _

theorem bitsValue_zipIdx (bs : List Bool) (k : Nat) :
    ((bs.zipIdx k).map fun x => if x.1 then 2 ^ x.2 else 0).sum = 2 ^ k * bitsNat bs := by
  induction bs generalizing k with
  | nil => rfl
  | cons b bs ih =>
    simp only [List.zipIdx_cons, List.map_cons, List.sum_cons, ih, bitsNat, pow_succ]
    cases b <;> simp <;> ring

theorem bitsNat_eq (bs : List Bool) : bitsNat bs = bitsValue bs := by
  rw [bitsValue, bitsValue_zipIdx]; simp

theorem portSetByte_eq (f : Port → Bool) : portSetByte (Vector.ofFn f) = portsByte f := by
  have h : (Vector.ofFn f).toList = [f 0, f 1, f 2, f 3] := by
    rw [Vector.toList_ofFn]; rfl
  rw [portSetByte, h, portsByte]
  cases f 0 <;> cases f 1 <;> cases f 2 <;> cases f 3 <;> rfl

theorem laneByte_eq (l : Lane) : l.byte = laneCode l := by cases l <;> rfl

theorem policyByte_eq (f : FullPolicy) : f.byte = policyCode f := by cases f <;> rfl

/-! ### The CRC and the response (R164, R170) -/

theorem crcShift_toNat (r : Half) : (crcShift r).toNat = crcShifted r.toNat := by
  have hr := r.isLt
  unfold crcShift crcShifted
  by_cases h : 32768 ≤ r.toNat
  · have hm : r.msb = true := by rw [BitVec.msb_eq_decide]; simpa using h
    rw [if_pos hm, if_pos h, BitVec.toNat_xor, BitVec.toNat_shiftLeft, Nat.shiftLeft_eq]
    norm_num [Nat.mul_comm]
  · have hm : r.msb = false := by rw [BitVec.msb_eq_decide]; simpa using h
    rw [if_neg (by simp [hm]), if_neg h, BitVec.toNat_shiftLeft, Nat.shiftLeft_eq]
    omega

theorem crcShift_iterate_toNat (k : Nat) (r : Half) : (Nat.iterate crcShift k r).toNat = Nat.iterate crcShifted k r.toNat := by
  induction k generalizing r with
  | zero => rfl
  | succ k ih => rw [Nat.iterate, Nat.iterate, ih, crcShift_toNat]

theorem crcByte_toNat (r : Half) (b : Byte) :
    (crcByte r b).toNat = Nat.iterate crcShifted 8 (r.toNat ^^^ (256 * b.toNat)) := by
  have hb := b.isLt
  rw [crcByte, crcShift_iterate_toNat, BitVec.toNat_xor, BitVec.toNat_shiftLeft, BitVec.toNat_setWidth, Nat.shiftLeft_eq]
  congr 2
  omega

/-- The CRC is the one R164 describes. -/
theorem crc16_toNat (bytes : List Byte) : (crc16 bytes).toNat = crcOf bytes := by
  suffices h : ∀ r : Half, (bytes.foldl crcByte r).toNat =
      bytes.foldl (fun r b => Nat.iterate crcShifted 8 (r ^^^ (256 * b.toNat))) r.toNat from h 0xFFFF#16
  induction bytes with
  | nil => intro r; rfl
  | cons b bs ih => intro r; rw [List.foldl_cons, List.foldl_cons, ih, crcByte_toNat]

theorem outcomeByte_eq (o : OutcomeCode) : o.byte = BitVec.ofNat 8 (outcomeCode o) := by cases o <;> rfl

theorem headerByte_eq (st : SessionState) (n : BitVec 4) :
    st.code ++ n = BitVec.ofNat 8 (16 * stateCode st + n.toNat) := by
  revert n; cases st <;> decide

/-- A response is laid out as R170 gives it. -/
theorem responseBytes_eq (r : Response) : r.bytes = responseBytes r := by
  simp only [Response.bytes, Response.body, responseBytes, halfBytes_eq, crc16_toNat, outcomeByte_eq, headerByte_eq]

/-- A frame of the layout R163 gives is read as its code and arguments spell, whatever bytes follow it. -/
theorem commandOf_framed (p : Port) (code num : Byte) (args extra : List Byte) (h : args.length ≤ 72) :
    commandOf p (framed code num args ++ extra) =
      (requestOf ⟨p, num.setWidth 4⟩ code args).getD (.badCommand ⟨p, num.setWidth 4⟩ code args) := by
  have e : framed code num args ++ extra =
      code :: num :: BitVec.ofNat 8 args.length :: (args ++
        (leBytes 2 (crc16 (code :: num :: BitVec.ofNat 8 args.length :: args)).toNat ++ extra)) := by
    simp [framed, leBytes_eq, crc16_toNat]
  rw [e, commandOf, judge_complete _ _ _ _ h]

/-! ### Views of the state -/

theorem state_eq (ph : Phase) : ph.state = stateOf ph := by cases ph <;> rfl

theorem isOpen_eq (s : State) (p : Port) : s.isOpen p = openAt s p := by
  unfold State.isOpen openAt Phase.isOpen; cases s.sessions[p].phase <;> rfl

theorem conn_eq (ph : Phase) : ph.conn? = connOf ph := by cases ph <;> rfl

theorem isWaiting_eq (e : Pull) : e.isWaiting = waits e := by
  unfold Pull.isWaiting waits; cases e.state <;> rfl

theorem handEntries_eq (q : Queue) : q.handEntries = handOf q := by
  have h : q.hand.toList = (List.finRange 4).map fun k => q.hand[k] := by
    apply List.ext_getElem <;> simp
  rw [Queue.handEntries, handOf, h, List.filterMap_map]; rfl

theorem handCount_eq (q : Queue) : q.handCount = handSize q := by
  rw [Queue.handCount, handEntries_eq, handOf, handSize, List.length_filterMap_eq_countP]

theorem occupancy_eq (q : Queue) : q.occupancy = occupancyOf q := by
  rw [Queue.occupancy, occupancyOf, handCount_eq]

theorem composingCount_eq (s : State) (p : Port) : s.pool.composingCount p = composingOf s p := by
  have h : s.pool.slots.toList = (List.finRange 256).map fun i => s.pool.slots[i] := by
    apply List.ext_getElem <;> simp
  rw [Pool.composingCount, composingOf, h, List.countP_map]
  congr 1

theorem latchedClear_eq : Latched.clear = unlatched := rfl

theorem ruleCleared_eq : Rule.cleared = clearedRule := rfl

end Sys2Proof.Laws
end

