-- ==== Sys2Proof/Tests/Slice0.lean ====
section
/-! SUPPORT. Tests: frames written out from spec/10, the example system of spec/12, ill-formed terms, and a witness for every
statement that has hypotheses. -/

-- One test at a time: many closed evaluations waiting at once each hold a thread.
set_option Elab.async false

namespace Sys2Proof.Tests

open Sys2Proof.Machine Sys2Proof.Safety Sys2Proof.Statements

/-! ### Frames written out byte by byte (spec/10 sections 10.3 and 10.6) -/

theorem test_crc_check_value :
    crc16 [0x31#8, 0x32#8, 0x33#8, 0x34#8, 0x35#8, 0x36#8, 0x37#8, 0x38#8, 0x39#8] = 0x29B1#16 := by decide +kernel

theorem test_frame_poll : commandOf 2 [0x00#8, 0x05#8, 0x00#8, 0x69#8, 0x33#8] = .poll ⟨2, 5#4⟩ := by decide +kernel

/-- P0's OPEN of spec/12 section 12.1: lease 50 ms, silence limit 100 ms, depth 16, composing 4, redelivery 2. -/
theorem test_frame_open :
    commandOf 0 [0x01#8, 0x0C#8, 0x08#8, 0x32#8, 0x00#8, 0x64#8, 0x00#8, 0x00#8, 0x10#8, 0x04#8, 0x02#8, 0xE1#8,
      0xFD#8] = .openSession ⟨0, 12#4⟩ ⟨50#16, 100#16, 0#8, 16#8, 4#8, 2#8⟩ := by decide +kernel

theorem test_frame_write :
    commandOf 1 [0x11#8, 0x02#8, 0x04#8, 0x07#8, 0x3E#8, 0xAA#8, 0xBB#8, 0x1E#8, 0x17#8] =
      .write ⟨1, 2#4⟩ 7 62#8 [0xAA#8, 0xBB#8] := by decide +kernel

theorem test_frame_submit :
    commandOf 1 [0x13#8, 0x07#8, 0x04#8, 0x07#8, 0x01#8, 0x02#8, 0x08#8, 0x07#8, 0xDE#8] =
      .submit ⟨1, 7#4⟩ 7 0x0201#16 8#8 := by decide +kernel

theorem test_frame_release :
    commandOf 2 [0x22#8, 0x03#8, 0x07#8, 0x00#8, 0x28#8, 0x00#8, 0x00#8, 0x00#8, 0x00#8, 0x00#8, 0xA8#8, 0xD4#8] =
      .release ⟨2, 3#4⟩ 0#8 40#48 := by decide +kernel

theorem test_frame_pull :
    commandOf 1 [0x31#8, 0x01#8, 0x01#8, 0x03#8, 0xFF#8, 0xEA#8] = .pull ⟨1, 1#4⟩ 3#8 := by decide +kernel

/-- Rule 2 of spec/12 section 12.1: tag 3000h, mask F000h, source P0, BOARD class, destination P1, board 3. -/
theorem test_frame_editRule :
    commandOf 1 [0x41#8, 0x09#8, 0x0E#8, 0x02#8, 0x01#8, 0x01#8, 0x00#8, 0x30#8, 0x00#8, 0xF0#8, 0x01#8, 0x02#8,
      0x00#8, 0x00#8, 0x00#8, 0x00#8, 0x03#8, 0x05#8, 0xB4#8] =
      .editRule ⟨1, 9#4⟩ 2#8 ⟨1#8, 1#8, 0x3000#16, 0xF000#16, 1#8, 2#8, 0#16, 0#8, 0#8, 3#8⟩ := by decide +kernel

/-- Bits 7 to 4 of the second byte are not examined (R163), here Fh. -/
theorem test_frame_status :
    commandOf 3 [0x50#8, 0xF9#8, 0x00#8, 0x0B#8, 0x3B#8] = .status ⟨3, 9#4⟩ := by decide +kernel

theorem test_frame_ackReasons :
    commandOf 2 [0x51#8, 0x04#8, 0x02#8, 0x08#8, 0x00#8, 0x57#8, 0x83#8] = .ackReasons ⟨2, 4#4⟩ 8#16 := by decide +kernel

theorem test_frame_unknown_code :
    commandOf 0 [0x05#8, 0x04#8, 0x00#8, 0xA8#8, 0xEB#8] = .badCommand ⟨0, 4#4⟩ 0x05#8 [] := by decide +kernel

theorem test_frame_wrong_length :
    commandOf 0 [0x20#8, 0x04#8, 0x01#8, 0x09#8, 0x56#8, 0xCD#8] = .badCommand ⟨0, 4#4⟩ 0x20#8 [9#8] := by
  decide +kernel

/-- NOTHING_HELD as R173 gives it, and a RESERVE of number 9 refused with FENCED under epoch 7 (R170). -/
theorem test_response_bytes :
    State.reset.links[(0 : Port)].held.bytes = [0x00#8, 0x00#8, 0x02#8, 0x00#8, 0x00#8, 0x6C#8, 0x7F#8] ∧
      (Response.mk 0x10#8 .fenced 9#4 .fenced 7#8 []).bytes = [0x10#8, 0x39#8, 0x14#8, 0x07#8, 0x00#8, 0xFC#8, 0xCC#8] := by
  decide +kernel

theorem test_frame_bad_crc :
    commandOf 0 [0x00#8, 0x05#8, 0x00#8, 0x69#8, 0x32#8] = .linkCrc 0 [0x00#8, 0x05#8, 0x00#8, 0x69#8, 0x32#8] := by
  decide +kernel

theorem test_frame_short : commandOf 0 [0x00#8, 0x05#8, 0x00#8, 0x69#8] = .linkTruncated 0 [0x00#8, 0x05#8, 0x00#8, 0x69#8] := by
  decide +kernel

theorem test_no_word_spells_a_command : decodeTableWord 8 0 = none := rfl

/-! ### Ill-formed terms, one for each check of WellFormed -/

/-- Twelve bits clocked in: 50h most significant bit first, and four bits that are dropped. Twelve bits of NOTHING_HELD
clocked out: 00h and the session state. -/
theorem test_transaction_bits :
    let bits := [false, true, false, true, false, false, false, false, true, true, true, true]
    let t : Transaction := ⟨0, some 50, none, bits.flatMap fun b => [.clockRises b, .clockFalls]⟩
    t.wellFormed = true ∧ t.command = .linkTruncated 0 [0x50#8] ∧ t.dataOut State.reset = List.replicate 12 false := by
  decide +kernel

/-- The third byte of the held response after a pin reset is NOTHING_HELD, 02h. -/
theorem test_transaction_reads_most_significant_first :
    let t : Transaction := ⟨0, some 50, none, (List.replicate 24 true).flatMap fun b => [.clockRises b, .clockFalls]⟩
    gather (t.dataOut State.reset) = [0x00#8, 0x00#8, 0x02#8] ∧ (t.dataOut State.reset)[22]? = some true := by
  decide +kernel

/-- A reset on the way loses the transaction although RESET_N is high again at its end; the outcome byte reads 00h. -/
theorem test_transaction_lost_to_reset :
    let half := (List.replicate 16 false).flatMap fun b => [LinkEdge.clockRises b, .clockFalls]
    let t : Transaction := ⟨2, some 50, none, half ++ [.resetFalls, .resetReleased] ++ half⟩
    t.wellFormed = true ∧ t.command = .transactionTooSoon 2 ∧ gather (t.dataOut State.reset) = List.replicate 4 0#8 := by
  decide +kernel

theorem test_illFormed_transaction_falls_first : (Transaction.mk 0 (some 50) none [.clockFalls]).wellFormed = false := by
  decide +kernel
theorem test_illFormed_transaction_rises_twice :
    (Transaction.mk 0 (some 50) none [.clockRises true, .clockRises true]).wellFormed = false := by decide +kernel
theorem test_illFormed_transaction_released_high :
    (Transaction.mk 0 (some 50) none [.resetReleased]).wellFormed = false := by decide +kernel

theorem test_illFormed_write : (Instr.write ⟨0, 0#4⟩ 0 0#8 (List.replicate 65 0#8)).wellFormed = false := by decide +kernel
theorem test_illFormed_badCommand_accepted : (Instr.badCommand ⟨0, 0#4⟩ 0x20#8 []).wellFormed = false := by decide +kernel
theorem test_illFormed_badCommand_long :
    (Instr.badCommand ⟨0, 0#4⟩ 0x05#8 (List.replicate 73 0#8)).wellFormed = false := by decide +kernel
theorem test_illFormed_linkTruncated : (Instr.linkTruncated 0 [0x00#8, 0x05#8, 0x00#8, 0x69#8, 0x33#8]).wellFormed = false := by
  decide +kernel
theorem test_illFormed_linkCrc : (Instr.linkCrc 0 [0x00#8, 0x05#8]).wellFormed = false := by decide +kernel

/-! ### The example system of spec/12 -/

/-- The state after a command, where it answers a next state. -/
def after (c : Instr) (s : State) : State :=
  match exec c s with
  | .next t => t
  | .fault _ => s
  | .refused _ => s

def ports (a b c d : Bool) : PortSet := #v[a, b, c, d]

def ruleFor (tag mask : Half) (source dest : PortSet) (cls : RuleClass) : Rule where
  valid := true
  tag := tag
  mask := mask
  source := source
  cls := cls
  dest := dest
  echo := false
  rewrite := none

/-- The table that P1 commits at bring-up (section 12.1). -/
def table : Table where
  rules := (((Table.initial.rules.set 0
    (ruleFor 0x0100#16 0xFF00#16 (ports false true false false) (ports true false false true) (.queued .urgent .refuse))).set 1
    (ruleFor 0x0200#16 0xFF00#16 (ports false true false false) (ports true false true true) (.queued .normal .dropOldest))).set 2
    (ruleFor 0x3000#16 0xF000#16 (ports true false false false) (ports false true false false) (.board 3))).set 3
    (ruleFor 0#16 0#16 (ports true true true true) (ports false false false false) (.queued .normal .refuse))
  boards := Table.initial.boards.set 3 { enabled := true, supplier := some 0, pullTimeout := 20#16 }

def running (silence : Half) : Timer := { start := 0#32, duration := silence, due := false }

def conn (lease silence : Half) (depth redelivery : Nat) : Conn where
  lease := lease
  silence := some (running silence)
  depth := depth
  composing := 4
  redelivery := redelivery

/-- The hub of section 12.1 with every port OPEN, its masks as OPEN sets them, and nothing posted. -/
def hub : State :=
  { State.reset with
    table := table
    generation := 1#16
    sessions := #v[⟨.opened (conn 50#16 100#16 16 2), 1#8⟩, ⟨.opened (conn 1000#16 2000#16 32 3), 1#8⟩,
      ⟨.opened (conn 1000#16 2000#16 3 3), 1#8⟩, ⟨.opened (conn 1000#16 500#16 32 3), 1#8⟩]
    attention := Vector.replicate 4 { latched := .clear, mask := 0x03FE#16, line := false } }

def entry (slot : SlotIx) (n : Seq) (lane : Lane) (redelivery : Nat) : Entry := ⟨slot, n, lane, redelivery⟩

def message (n : Seq) (tag : Half) (author : Port) (kind : Kind) (refs : Nat) : Message where
  payload := Vector.replicate 64 0x41#8
  length := 8
  tag := tag
  routeTag := tag
  author := author
  sequence := n
  stamp := 0#32
  kind := kind
  refs := refs

def inHand (e : Entry) (lease : Timer) : Option HandEntry := some { entry := e, lease := lease }

def queueOf (urgent normal : List Entry) (hand : Vector (Option HandEntry) 4) : Queue :=
  { Queue.initial with urgent := urgent, normal := normal, hand := hand }

/-- Section 12.3, before the SUBMIT: P2 is full, P3 has room, slot 7 is being composed by P1. -/
def multicast : State :=
  { hub with
    sequence := .next 43#48
    pool :=
      { hub.pool with
        slots := (((hub.pool.slots.set 4 (.live (message 40#48 0x0200#16 1 .queued 1))).set 5
          (.live (message 41#48 0x0200#16 1 .queued 2))).set 6
          (.live (message 42#48 0x0200#16 1 .queued 2))).set 7 (.composing 1 (Vector.replicate 64 0x41#8))
        freeList := (List.finRange 256).filter fun i => i.val < 4 || 7 < i.val }
    queues := #v[Queue.initial, Queue.initial,
      queueOf [] [entry 5 41#48 .normal 0, entry 6 42#48 .normal 0]
        #v[inHand (entry 4 40#48 .normal 0) (running 1000#16), none, none, none],
      queueOf [] [entry 5 41#48 .normal 0, entry 6 42#48 .normal 0] (Vector.replicate 4 none)] }

def submit : Instr := .submit ⟨1, 1#4⟩ 7 0x0201#16 8#8
def release : Instr := .release ⟨2, 1#4⟩ 0#8 40#48

def normalOf (s : State) (p : Port) : List Nat := s.queues[p].normal.map fun e => e.sequence.toNat
def refsOf (s : State) (i : SlotIx) : Nat :=
  match s.pool.slots[i] with
  | .live m => m.refs
  | _ => 0

/-- Section 12.3: accepted with sequence 43 and delivered set {P0, P2, P3}; P2 gives up 41. -/
theorem test_submit_multicast :
    (after submit multicast).links[1].held.content = [43#8, 0#8, 0#8, 0#8, 0#8, 0#8, 0#8, 0x0D#8, 0xFF#8] ∧
      normalOf (after submit multicast) 2 = [42, 43] := by decide +kernel

theorem test_submit_multicast_slots :
    ([4, 5, 6, 7].map fun i => refsOf (after submit multicast) i) = [1, 1, 2, 3] ∧
      (after submit multicast).queues[(2 : Port)].overflow = 1#16 := by decide +kernel

/-- Section 12.3, RELEASE first: nothing is evicted, slot 4 is freed. -/
theorem test_release_first :
    normalOf (after submit (after release multicast)) 2 = [41, 42, 43] ∧
      (after release multicast).pool.slots[(4 : SlotIx)] = .free := by decide +kernel

/-- Section 12.3: TAKE after the SUBMIT returns 42 into the lowest free handle, handle 1. -/
theorem test_take :
    ((after (.take ⟨2, 2#4⟩) (after submit multicast)).links[2].held.content.take 4) = [1#8, 6#8, 42#8, 0#8] := by
  decide +kernel

theorem test_peek :
    (after (.peek ⟨2, 2#4⟩) multicast).links[2].held.content.length = 20 := by decide +kernel

/-- Section 12.3: STATUS at P2 shows OVERFLOW, priority 4, as the top reason; ACK_REASONS 0008h clears it. -/
theorem test_status_top_reason :
    (after (.status ⟨2, 2#4⟩) (after submit multicast)).links[2].held.content.take 3 = [1#8, 1#8, 4#8] := by
  decide +kernel

theorem test_ackReasons :
    (after (.ackReasons ⟨2, 2#4⟩ 8#16) (after submit multicast)).attention[(2 : Port)].latched = Latched.clear := by
  decide +kernel

theorem test_stats :
    (after (.stats ⟨2, 2#4⟩ 1#8 0#8) (after submit multicast)).links[2].held.content.take 2 = [1#8, 0#8] ∧
      (after (.stats ⟨2, 2#4⟩ 1#8 0#8) (after submit multicast)).queues[(2 : Port)].overflow = 0#16 := by decide +kernel

/-- Section 12.4 at 80 ms: the entry of handle 0, sequence 110, goes back in front of 115. -/
def lapsing (redelivery : Nat) : State :=
  { hub with
    sequence := .next 116#48
    pool := { hub.pool with
      slots := hub.pool.slots.set 9 (.live (message 110#48 0x0100#16 1 .queued 2))
      freeList := (List.finRange 256).filter fun i => decide (i ≠ 9) }
    queues := hub.queues.set 0
      (queueOf [entry 10 115#48 .urgent 0] [entry 11 105#48 .normal 1, entry 12 112#48 .normal 0]
        #v[inHand (entry 9 110#48 .urgent redelivery) { start := 0#32, duration := 50#16, due := true }, none, none,
          none]) }

theorem test_leaseExpiry_redelivers :
    (after (.leaseExpiry 0 0) (lapsing 0)).queues[(0 : Port)].urgent =
      [entry 9 110#48 .urgent 1, entry 10 115#48 .urgent 0] ∧
      (after (.leaseExpiry 0 0) (lapsing 0)).queues[(0 : Port)].expiry = 1#16 := by decide +kernel

/-- Section 12.4 at 140 ms: the count reaches the limit 2, and the entry is discarded. -/
theorem test_leaseExpiry_discards :
    (after (.leaseExpiry 0 0) (lapsing 1)).queues[(0 : Port)].discard = 1#16 ∧
      refsOf (after (.leaseExpiry 0 0) (lapsing 1)) 9 = 1 := by decide +kernel

theorem test_giveBack :
    (after (.giveBack ⟨0, 1#4⟩ 0#8 110#48) (lapsing 0)).queues[(0 : Port)].urgent =
      [entry 9 110#48 .urgent 0, entry 10 115#48 .urgent 0] := by decide +kernel

theorem test_renew_stale :
    (after (.renew ⟨0, 1#4⟩ 0#8 111#48) (lapsing 0)).links[0].held.outcome = .staleHandle := by decide +kernel

/-- Section 12.5: P1 and P3 pull board 3; P0's update and P1's expiry meet. -/
def pulling : State :=
  { hub with
    sequence := .next 157#48
    timeBase := 1020000#32
    pool := { hub.pool with
      slots := (hub.pool.slots.set 2 (.live (message 150#48 0x3001#16 0 .boarded 1))).set 3
        (.composing 0 (Vector.replicate 64 0x41#8))
      freeList := (List.finRange 256).filter fun i => i.val < 2 || 3 < i.val }
    boards := hub.boards.set 3 { Board.blank with held := some 2, lastSequence := 150#48 }
    pulls := [⟨1, 3, .waiting { start := 1000000#32, duration := 20#16, due := true }⟩,
      ⟨3, 3, .waiting { start := 1005000#32, duration := 20#16, due := false }⟩] }

def update : Instr := .submit ⟨0, 1#4⟩ 3 0x3001#16 8#8

theorem test_update_first :
    ((after (.pullExpiry 1 3) (after update pulling)).pulls.map fun e => e.state) =
      [.done (.satisfied 157#48), .done (.satisfied 157#48)] ∧
      (after update pulling).boards[(3 : BoardIx)].unread = ports false true false true := by decide +kernel

theorem test_expiry_first :
    ((after update (after (.pullExpiry 1 3) pulling)).pulls.map fun e => e.state) =
      [.done .expired, .done (.satisfied 157#48)] ∧
      (after (.pullExpiry 1 3) pulling).wanted[(0 : Port)][(3 : BoardIx)] = true := by decide +kernel

theorem test_collect :
    (after (.collect ⟨1, 1#4⟩ 3#8) (after update pulling)).links[1].held.content =
      [3#8, 1#8, 157#8, 0#8, 0#8, 0#8, 0#8, 0#8] := by decide +kernel

theorem test_readBoard :
    (after (.readBoard ⟨1, 1#4⟩ 3#8) (after update pulling)).boards[(3 : BoardIx)].unread = ports false false false true := by
  decide +kernel

/-- Section 12.5: a second PULL of board 3 before the COLLECT is answered UNCOLLECTED. -/
theorem test_pull_uncollected :
    (after (.pull ⟨1, 1#4⟩ 3#8) (after update pulling)).links[1].held.outcome = .uncollected := by decide +kernel

/-- Section 12.2: the table of section 12.1 is edited into the shadow and committed by P1. -/
def editing : State := after (.claim ⟨1, 1#4⟩) { hub with table := .initial, generation := 0#16 }

theorem test_claim_held :
    (after (.claim ⟨3, 1#4⟩) editing).links[3].held.outcome = .claimHeld ∧
      (after (.claim ⟨3, 1#4⟩) editing).links[3].held.content = [1#8] := by decide +kernel

def edited : State :=
  after (.editRule ⟨1, 3#4⟩ 2#8 ⟨1#8, 1#8, 0x3000#16, 0xF000#16, 1#8, 2#8, 0#16, 0#8, 0#8, 3#8⟩)
    (after (.editBoard ⟨1, 2#4⟩ 3#8 ⟨1#8, 0#8, 20#16⟩) editing)

theorem test_edits : (edited.claim.map fun c => (c.shadow.rules[(2 : RuleIx)], c.shadow.boards[(3 : BoardIx)])) =
    some (table.rules[(2 : RuleIx)], table.boards[(3 : BoardIx)]) := by decide +kernel

theorem test_commit :
    (after (.commit ⟨1, 4#4⟩) edited).generation = 1#16 ∧ (after (.commit ⟨1, 4#4⟩) edited).claim = none ∧
      (after (.commit ⟨1, 4#4⟩) edited).attention[(0 : Port)].latched.tableChanged = true := by decide +kernel

/-- Section 12.2: an empty source set gives TABLE_INVALID, rule 3, EMPTY_SOURCE. -/
theorem test_commit_invalid :
    (after (.commit ⟨1, 4#4⟩) (after (.editRule ⟨1, 5#4⟩ 3#8 ⟨1#8, 0#8, 0#16, 0#16, 0#8, 0#8, 0#16, 0#8, 0#8, 0#8⟩)
      edited)).links[1].held.content = [3#8, 1#8] := by decide +kernel

theorem test_readRule :
    (after (.readRule ⟨1, 5#4⟩ 2#8 1#8) edited).links[1].held.content =
      [2#8, 1#8, 0#8, 0#8, 1#8, 1#8, 0#8, 0x30#8, 0#8, 0xF0#8, 1#8, 2#8, 0#8, 0#8, 0xFF#8, 0xFF#8, 3#8] := by
  decide +kernel

theorem test_claimLapse :
    (after .claimLapse { hub with claim := some ⟨1, table, { running 2000#16 with due := true }⟩ }).claim = none ∧
      (after .claimLapse { hub with claim := some ⟨1, table, { running 2000#16 with due := true }⟩ }).attention[(1 :
        Port)].latched.claimLapsed = true := by decide +kernel

/-- Section 12.1: P1 sends every field as 0 and gets the defaults 1000 ms, 2000 ms, 32, 4, 3. -/
theorem test_open_defaults :
    (after (.openSession ⟨1, 1#4⟩ ⟨0#16, 0#16, 0#8, 0#8, 0#8, 0#8⟩) State.reset).links[1].held.content =
      [0xE8#8, 3#8, 0xD0#8, 7#8, 0#8, 32#8, 4#8, 3#8] := by decide +kernel

theorem test_open_epoch_and_mask :
    (after (.openSession ⟨1, 1#4⟩ ⟨0#16, 0#16, 0#8, 0#8, 0#8, 0#8⟩) State.reset).sessions[(1 : Port)].epoch = 1#8 ∧
      (after (.openSession ⟨1, 1#4⟩ ⟨0#16, 0#16, 0#8, 0#8, 0#8, 0#8⟩) State.reset).attention[(1 : Port)].mask =
        0x03FE#16 := by decide +kernel

/-- Section 12.6 in small: the fence of P2 frees the slot its hand alone holds and counts the discard. -/
def silent : State :=
  { multicast with
    sessions := multicast.sessions.set 2
      ⟨.opened { conn 1000#16 2000#16 3 3 with silence := some { running 2000#16 with due := true } }, 1#8⟩ }

theorem test_fence :
    (after (.silenceExpiry 2) silent).queues[(2 : Port)].discard = 1#16 ∧
      (after (.silenceExpiry 2) silent).pool.freeList.getLast? = some 4 ∧ refsOf (after (.silenceExpiry 2) silent) 5 = 1 := by
  decide +kernel

theorem test_unfence :
    (after (.unfence ⟨2, 11#4⟩) (after (.silenceExpiry 2) silent)).sessions[(2 : Port)].phase = .closed ∧
      (after (.unfence ⟨2, 11#4⟩) (after (.silenceExpiry 2) silent)).attention[(2 : Port)].line = false := by
  decide +kernel

theorem test_close_keeps_hand :
    (after (.close ⟨2, 1#4⟩) multicast).links[2].held.content = [2#8, 1#8] ∧ refsOf (after (.close ⟨2, 1#4⟩) multicast) 4 = 1 := by
  decide +kernel

theorem test_resetPort :
    (after (.resetPort ⟨2, 1#4⟩) multicast).sessions[(2 : Port)].phase = .closed ∧
      (after (.resetPort ⟨2, 1#4⟩) multicast).pool.slots[(4 : SlotIx)] = .free := by decide +kernel

/-- Section 12.6: a STATUS that repeats the last number and command is answered with a copy of the old one. -/
theorem test_duplicate :
    (after (.status ⟨3, 9#4⟩) (after (.status ⟨3, 9#4⟩) hub)).links[3].duplicates = 1#16 := by decide +kernel

theorem test_reserve :
    (after (.reserve ⟨0, 1#4⟩) hub).links[0].held.content = [0#8, 255#8] ∧
      (after (.reserve ⟨0, 1#4⟩) hub).pool.slots[(0 : SlotIx)].composedBy 0 = true := by decide +kernel

theorem test_write_last_byte :
    (after (.write ⟨1, 1#4⟩ 7 63#8 [0x5A#8]) multicast).pool.slots[(7 : SlotIx)] =
      .composing 1 ((Vector.replicate 64 0x41#8).set 63 0x5A#8) := by decide +kernel

theorem test_abandon :
    (after (.abandon ⟨1, 1#4⟩ 7) multicast).pool.freeList.getLast? = some 7 := by decide +kernel

theorem test_setAttention_clears_bit_0 :
    (after (.setAttention ⟨1, 1#4⟩ 0x03FF#16) hub).attention[(1 : Port)].mask = 0x03FE#16 := by decide +kernel

theorem test_badCommand :
    (after (.badCommand ⟨0, 4#4⟩ 0x05#8 []) hub).links[0].held.outcome = .badCommand ∧
      (after (.badCommand ⟨0, 4#4⟩ 0x20#8 [9#8]) hub).links[0].held.outcome = .badLength := by decide +kernel

theorem test_linkCrc : (after (.linkCrc 0 [0x20#8, 0xF4#8]) hub).links[0].held.number = 4#4 := by decide +kernel

/-- R155, R156: a 1 ms timer set at 0 with the first tick at 1000 µs is due at that tick. -/
theorem test_tick_makes_due :
    ((after .timeBaseAdvance { lapsing 0 with timeBase := 49999#32, tickPhase := 999 }).queues[(0 : Port)].hand[(0 :
      Handle)].map fun x => x.lease.due) = some true ∧
    (after .timeBaseAdvance { hub with timeBase := 0xFFFFFFFF#32 }).timeBase = 0#32 := by decide +kernel

theorem test_resetNRelease : after .resetNRelease multicast = { State.reset with pending := multicast.pending } := by
  decide +kernel

/-! ### Witnesses: for every statement with hypotheses, a state and operands that meet them together -/

def head (p : Port) : Head := ⟨p, 1#4⟩

/-- One port in each session state: P0 CLOSED, P1 OPEN, P2 CLOSING, P3 FENCED. -/
def mixed : State :=
  { hub with
    sessions := #v[⟨.closed, 1#8⟩, ⟨.opened (conn 1000#16 2000#16 32 3), 1#8⟩,
      ⟨.closing (conn 1000#16 2000#16 3 3), 1#8⟩, ⟨.fenced, 1#8⟩] }

theorem test_witness_StepTakesTheFrontCommand : State.reset.pending = [] := rfl

theorem test_witness_RequestFrameIsReadAsItsRequest :
    let c : Instr := .write ⟨3, 15#4⟩ 255 0#8 (List.replicate 64 0xFF#8)
    c.wellFormed = true ∧
      c.request? = some ⟨⟨3, 15#4⟩, 0x11#8, 0xFF#8 :: 0#8 :: List.replicate 64 0xFF#8⟩ := by decide +kernel

theorem test_witness_RequestFrame_badCommand :
    let c : Instr := .badCommand ⟨0, 0#4⟩ 0xFF#8 (List.replicate 72 0#8)
    c.wellFormed = true ∧ c.request? = some ⟨⟨0, 0#4⟩, 0xFF#8, List.replicate 72 0#8⟩ := by decide +kernel

theorem test_witness_WrittenFrames : (List.replicate 64 0#8 : List Byte).length ≤ 64 := by decide

/-- A code the table does not know with 72 argument bytes, and one below and one above a length it gives. -/
theorem test_witness_FirstCheckRefuses :
    (∀ row ∈ commandTable, row.1 = 0xFF#8 → (List.replicate 72 0#8 : List Byte).length < row.2.1 ∨
        row.2.2 < (List.replicate 72 0#8 : List Byte).length) ∧
      (∀ row ∈ commandTable, row.1 = 0x11#8 → [0#8].length < row.2.1 ∨ row.2.2 < [0#8].length) ∧
      ∀ row ∈ commandTable, row.1 = 0x11#8 → (List.replicate 67 0#8 : List Byte).length < row.2.1 ∨
        row.2.2 < (List.replicate 67 0#8 : List Byte).length := by decide +kernel

theorem test_witness_Transactions_tooSoon :
    (∃ us, (Transaction.mk 0 (some 50) (some 1) []).sincePrevious = some us ∧ us < 2) ∧
      (Transaction.mk 0 none none []).sinceRelease = none ∧
      ∃ us, (Transaction.mk 0 (some 49) none []).sinceRelease = some us ∧ us < 50 :=
  ⟨⟨1, rfl, by decide⟩, rfl, ⟨49, rfl, by decide⟩⟩

theorem test_witness_Transactions_received :
    [true, true, true, true, true, true, true].length < 8 ∧ hub.resetN = true ∧ 50 ≤ 50 ∧
      (∀ us, some 2 = some us → 2 ≤ us) ∧ 0 < [true].length := by
  refine ⟨by decide, rfl, by decide, ?_, by decide⟩
  rintro us h
  cases h
  decide

theorem test_witness_LinkErrors :
    [0#8, 0#8, 0#8, 0#8].length < 5 ∧
      (∃ c n l rest, (0#8 :: 0#8 :: 73#8 :: List.replicate 77 0#8) = c :: n :: l :: rest ∧ 72 < l.toNat) ∧
      (∃ c n l rest, (0#8 :: 0#8 :: 72#8 :: List.replicate 73 0#8) = c :: n :: l :: rest ∧
        (0#8 :: 0#8 :: 72#8 :: List.replicate 73 0#8).length < 5 + l.toNat) ∧ hub.resetN = true :=
  ⟨by decide, ⟨_, _, _, _, rfl, by decide⟩, ⟨_, _, _, _, rfl, by decide⟩, rfl⟩

/-- At the longest length, 72: two CRC fields differ, so one of them is wrong. -/
theorem test_witness_LinkErrors_crc :
    (List.replicate 72 0#8).length ≤ 72 ∧ ∃ crc : List Byte, crc.length = 2 ∧
      crc ≠ le 2 (crcOf (0#8 :: 0#8 :: BitVec.ofNat 8 (List.replicate 72 0#8).length :: List.replicate 72 0#8)) := by
  refine ⟨by decide, ?_⟩
  generalize le 2 _ = right
  by_cases h : [0#8, 0#8] = right
  · exact ⟨[1#8, 0#8], rfl, fun h' => absurd (h.trans h'.symm) (by decide)⟩
  · exact ⟨[0#8, 0#8], rfl, h⟩

theorem test_witness_resetN_high : hub.resetN = true := rfl

theorem test_witness_DuplicateIsAnsweredFromTheRecord :
    let s := after (.status ⟨3, 9#4⟩) hub
    isKnownRequest (.status ⟨3, 9#4⟩) = true ∧ (Instr.status ⟨3, 9#4⟩).request? = some ⟨⟨3, 9#4⟩, 0x50#8, []⟩ ∧
      s.resetN = true ∧ s.links[(3 : Port)].lastNumber = some 9#4 ∧
      s.links[(3 : Port)].lastExecuted.command = 0x50#8 := by decide +kernel

/-- The hypotheses of SessionStateRefusesWithoutEffect. -/
def refusedAs (c : Instr) (o : OutcomeCode) : Prop :=
  ∃ r, c.request? = some r ∧ isKnownRequest c = true ∧ Fresh mixed r.head r.code ∧
    refusedIn c (stateOf mixed.sessions[r.head.port].phase) = some o

theorem mixed_fresh (h : Head) (code : Byte) : Fresh mixed h code := by
  refine ⟨rfl, fun x => ?_⟩
  have : ∀ p : Port, mixed.links[p].lastNumber = none := by decide +kernel
  rw [this] at x
  exact absurd x.1 (by simp)

theorem test_witness_SessionStateRefusesWithoutEffect :
    refusedAs (.openSession (head 1) ⟨0#16, 0#16, 0#8, 0#8, 0#8, 0#8⟩) .alreadyOpen ∧
      refusedAs (.openSession (head 2) ⟨0#16, 0#16, 0#8, 0#8, 0#8, 0#8⟩) .closing ∧
      refusedAs (.unfence (head 0)) .notFenced ∧ refusedAs (.close (head 0)) .notOpen ∧
      refusedAs (.release (head 3) 0#8 0#48) .fenced ∧ refusedAs (.stats (head 3) 0#8 0#8) .fenced ∧
      refusedAs (.take (head 0)) .notOpen ∧ refusedAs (.commit (head 2)) .closing ∧ refusedAs (.pull (head 3) 0#8) .fenced := by
  refine ⟨?_, ?_, ?_, ?_, ?_, ?_, ?_, ?_, ?_⟩ <;> exact ⟨_, rfl, rfl, mixed_fresh _ _, by decide +kernel⟩

/-- The hypotheses of OperandsOutOfRangeAreRefused. -/
def outAs (c : Instr) : Prop :=
  ∃ r, c.request? = some r ∧ isKnownRequest c = true ∧ Fresh mixed r.head r.code ∧
    refusedIn c (stateOf mixed.sessions[r.head.port].phase) = none ∧ outOfRange c

theorem outAs_of {c : Instr} {r : Request} (h1 : c.request? = some r) (h2 : isKnownRequest c = true)
    (h3 : refusedIn c (stateOf mixed.sessions[r.head.port].phase) = none) (h4 : outOfRange c) : outAs c :=
  ⟨r, h1, h2, mixed_fresh _ _, h3, h4⟩

theorem test_witness_OutOfRange_open :
    outAs (.openSession (head 0) ⟨0#16, 9#16, 0#8, 0#8, 0#8, 0#8⟩) ∧
      outAs (.openSession (head 0) ⟨0#16, 0#16, 0#8, 129#8, 0#8, 0#8⟩) ∧
      outAs (.openSession (head 0) ⟨0#16, 0#16, 0#8, 0#8, 17#8, 0#8⟩) ∧
      outAs (.openSession (head 0) ⟨0#16, 0#16, 0#8, 0#8, 0#8, 8#8⟩) := by
  refine ⟨?_, ?_, ?_, ?_⟩ <;> refine outAs_of rfl rfl (by decide +kernel) ?_ <;> simp [outOfRange, silenceGiven]

theorem test_witness_OutOfRange_others :
    outAs (.write (head 1) 0 64#8 [0#8]) ∧ outAs (.submit (head 1) 0 0#16 65#8) ∧
      outAs (.release (head 2) 4#8 0#48) ∧ outAs (.giveBack (head 1) 4#8 0#48) ∧ outAs (.renew (head 1) 4#8 0#48) ∧
      outAs (.readBoard (head 1) 32#8) ∧ outAs (.pull (head 1) 32#8) ∧ outAs (.cancelPull (head 1) 32#8) ∧
      outAs (.collect (head 1) 32#8) ∧ outAs (.clearRule (head 1) 64#8) ∧ outAs (.stats (head 0) 2#8 0#8) ∧
      outAs (.stats (head 0) 0#8 2#8) ∧ outAs (.readRule (head 1) 64#8 0#8) ∧ outAs (.readRule (head 1) 0#8 2#8) ∧
      outAs (.readBoarddef (head 1) 32#8 0#8) ∧ outAs (.readBoarddef (head 1) 0#8 2#8) := by
  refine ⟨?_, ?_, ?_, ?_, ?_, ?_, ?_, ?_, ?_, ?_, ?_, ?_, ?_, ?_, ?_, ?_⟩ <;>
    refine outAs_of rfl rfl (by decide +kernel) ?_ <;> simp [outOfRange]

theorem test_witness_OutOfRange_edits :
    outAs (.editRule (head 1) 64#8 ⟨0#8, 0#8, 0#16, 0#16, 0#8, 0#8, 0#16, 0#8, 0#8, 0#8⟩) ∧
      outAs (.editRule (head 1) 0#8 ⟨0#8, 2#8, 0#16, 0#16, 0#8, 0#8, 0#16, 0#8, 0#8, 0#8⟩) ∧
      outAs (.editRule (head 1) 0#8 ⟨0#8, 0#8, 0#16, 0#16, 0#8, 0#8, 0#16, 2#8, 0#8, 0#8⟩) ∧
      outAs (.editRule (head 1) 0#8 ⟨0#8, 0#8, 0#16, 0#16, 0#8, 0#8, 0#16, 0#8, 3#8, 0#8⟩) ∧
      outAs (.editRule (head 1) 0#8 ⟨0#8, 1#8, 0#16, 0#16, 0#8, 0#8, 0#16, 0#8, 0#8, 32#8⟩) ∧
      outAs (.editBoard (head 1) 32#8 ⟨0#8, 0#8, 1#16⟩) ∧ outAs (.editBoard (head 1) 0#8 ⟨0#8, 0#8, 0#16⟩) ∧
      outAs (.editBoard (head 1) 0#8 ⟨0#8, 4#8, 1#16⟩) ∧ outAs (.editBoard (head 1) 0#8 ⟨0#8, 0xFE#8, 1#16⟩) := by
  refine ⟨?_, ?_, ?_, ?_, ?_, ?_, ?_, ?_, ?_⟩ <;>
    refine outAs_of rfl rfl (by decide +kernel) ?_ <;> simp [outOfRange]

theorem test_witness_OutOfRange_reasons :
    outAs (.ackReasons (head 1) 0x0400#16) ∧ outAs (.setAttention (head 2) 0x8000#16) :=
  ⟨outAs_of rfl rfl (by decide +kernel) ⟨10, by decide, by decide, by decide⟩,
    outAs_of rfl rfl (by decide +kernel) ⟨15, by decide, by decide, by decide⟩⟩

theorem test_witness_NothingHappensWhileResetIsLow :
    (after .resetNAssert hub).resetN = false ∧ Instr.tick ≠ .resetNAssert ∧ Instr.tick ≠ .resetNRelease ∧
      Instr.tick ≠ .resetNShortPulse := by decide +kernel

/-- Every parameter of OPEN at its default, at its least and at its greatest value in force. -/
theorem test_witness_OpenStartsASession :
    Fresh mixed (head 0) 0x01#8 ∧ mixed.sessions[(0 : Port)].phase = .closed ∧
      silenceGiven ⟨0#16, 0#16, 1#8, 0#8, 0#8, 0#8⟩ none ∧ silenceGiven ⟨0#16, 0#16, 0#8, 0#8, 0#8, 0#8⟩ (some 2000#16) ∧
      silenceGiven ⟨0#16, 10#16, 0#8, 0#8, 0#8, 0#8⟩ (some 10#16) ∧ limitGiven 0#8 32 128 32 ∧ limitGiven 1#8 32 128 1 ∧
      limitGiven 128#8 32 128 128 ∧ limitGiven 16#8 4 16 16 ∧ limitGiven 7#8 3 7 7 := by
  refine ⟨mixed_fresh _ _, rfl, ?_⟩
  unfold silenceGiven limitGiven
  decide

theorem test_witness_CloseTearsDownAndKeepsTheHand :
    Fresh mixed (head 1) 0x02#8 ∧ mixed.sessions[(1 : Port)].phase = .opened (conn 1000#16 2000#16 32 3) ∧
      Fresh mixed (head 2) 0x02#8 ∧ mixed.sessions[(2 : Port)].phase = .closing (conn 1000#16 2000#16 3 3) ∧
      Fresh mixed (head 0) 0x02#8 ∧ mixed.sessions[(0 : Port)].phase = .closed ∧ Fresh mixed (head 3) 0x02#8 ∧
      mixed.sessions[(3 : Port)].phase = .fenced :=
  ⟨mixed_fresh _ _, rfl, mixed_fresh _ _, rfl, mixed_fresh _ _, rfl, mixed_fresh _ _, rfl⟩

theorem test_witness_UnfenceClosesAFencedPort :
    Fresh mixed (head 3) 0x03#8 ∧ mixed.sessions[(3 : Port)].phase = .fenced := ⟨mixed_fresh _ _, rfl⟩

theorem test_witness_ResetPortClosesFromEveryState : Fresh mixed (head 2) 0x04#8 := mixed_fresh _ _

theorem test_witness_SilenceExpiryFencesThePort :
    silent.resetN = true ∧ connOf silent.sessions[(2 : Port)].phase =
        some { conn 1000#16 2000#16 3 3 with silence := some { running 2000#16 with due := true } } ∧
      (∀ (c : Conn) (x : Timer), connOf hub.sessions[(0 : Port)].phase = some c → c.silence = some x → x.due = false) := by
  refine ⟨rfl, rfl, fun c x hc hx => ?_⟩
  cases hc
  cases hx
  rfl

theorem hub_fresh (s : State) (h : Head) (code : Byte) (hr : s.resetN = true) (hl : s.links = State.reset.links) :
    Fresh s h code := by
  refine ⟨hr, fun x => ?_⟩
  have : ∀ p : Port, State.reset.links[p].lastNumber = none := by decide +kernel
  rw [hl, this] at x
  exact absurd x.1 (by simp)

theorem test_witness_ReserveTakesTheHeadOfTheFreeList :
    Fresh multicast (head 0) 0x10#8 ∧ multicast.sessions[(0 : Port)].phase = .opened (conn 50#16 100#16 16 2) ∧
      composingOf multicast 0 ≠ 4 ∧
      multicast.pool.freeList = 0 :: (List.finRange 256).filter fun i => 0 < i.val && (i.val < 4 || 7 < i.val) :=
  ⟨hub_fresh _ _ _ rfl rfl, rfl, by decide +kernel, by decide +kernel⟩

theorem test_witness_ComposingSlots :
    Fresh multicast (head 1) 0x11#8 ∧ Fresh multicast (head 1) 0x12#8 ∧
      multicast.sessions[(1 : Port)].phase = .opened (conn 1000#16 2000#16 32 3) ∧
      multicast.pool.slots[(7 : SlotIx)] = .composing 1 (Vector.replicate 64 0x41#8) ∧
      (0#8).toNat + (List.replicate 64 0#8).length ≤ 64 ∧ (64#8).toNat + ([] : List Byte).length ≤ 64 :=
  ⟨hub_fresh _ _ _ rfl rfl, hub_fresh _ _ _ rfl rfl, rfl, by decide +kernel, by decide, by decide⟩

/-- The pool with nothing free, and P1 with its composing limit reached. -/
def crowded : State :=
  { multicast with
    pool := { multicast.pool with
      slots := Vector.ofFn fun i : SlotIx => if i.val < 4 then .composing 1 (Vector.replicate 64 0#8) else .free
      freeList := [] } }

theorem test_witness_PoolRefusals :
    Fresh crowded (head 1) 0x10#8 ∧ composingOf crowded 1 = 4 ∧ composingOf crowded 0 ≠ 4 ∧
      crowded.pool.freeList = [] ∧ ∀ payload, crowded.pool.slots[(4 : SlotIx)] ≠ .composing 1 payload :=
  ⟨hub_fresh _ _ _ rfl rfl, by decide +kernel, by decide +kernel, rfl, by
    have : crowded.pool.slots[(4 : SlotIx)] = .free := by decide +kernel
    rw [this]
    intro payload h
    cases h⟩

/-- Section 12.3 with a rule 1 of REFUSE: P2 is full and named in the full set. -/
def refusing : State :=
  { multicast with
    table :=
      { table with
        rules :=
          (table.rules.set 1
            (ruleFor 0x0200#16 0xFF00#16 (ports false true false false) (ports true false true true)
              (.queued .normal .refuse))).set 3 Rule.cleared } }

theorem test_witness_RoutingRefusals :
    Fresh refusing (head 1) 0x13#8 ∧ (64#8).toNat ≤ 64 ∧
      refusing.pool.slots[(7 : SlotIx)] = .composing 1 (Vector.replicate 64 0x41#8) ∧
      ({ refusing with sequence := .exhausted } : State).sequence = .exhausted ∧ refusing.sequence = .next 43#48 ∧
      (∀ i : RuleIx, ¬passes refusing.table.rules[i] 0x9999#16 1) ∧
      governs refusing.table 0x0201#16 1 refusing.table.rules[(1 : RuleIx)] ∧
      refusing.table.rules[(1 : RuleIx)].cls = .queued .normal .refuse ∧
      ∃ q : Port, inSet refusing refusing.table.rules[(1 : RuleIx)] 1 q = true ∧ full refusing q = true := by
  refine ⟨hub_fresh _ _ _ rfl rfl, by decide, by decide +kernel, rfl, rfl, ?_, ?_, by decide +kernel, by decide +kernel⟩
  · unfold passes; decide +kernel
  · unfold governs passes; decide +kernel

theorem test_witness_QueuedSubmissionDelivers :
    Fresh multicast (head 1) 0x13#8 ∧ (64#8).toNat = (64 : Fin 65).val ∧
      governs multicast.table 0x0201#16 1 multicast.table.rules[(1 : RuleIx)] ∧
      multicast.table.rules[(1 : RuleIx)].cls = .queued .normal .dropOldest ∧
      governs multicast.table 0x0100#16 1 multicast.table.rules[(0 : RuleIx)] ∧
      multicast.table.rules[(0 : RuleIx)].cls = .queued .urgent .refuse ∧
      ∀ q : Port, inSet multicast multicast.table.rules[(0 : RuleIx)] 1 q = true → full multicast q = false := by
  refine ⟨hub_fresh _ _ _ rfl rfl, by decide, ?_, by decide +kernel, ?_, by decide +kernel, by decide +kernel⟩ <;>
    (unfold governs passes; decide +kernel)

theorem test_witness_BoardSubmissionReplacesTheValue :
    Fresh pulling (head 0) 0x13#8 ∧ pulling.sessions[(0 : Port)].phase = .opened (conn 50#16 100#16 16 2) ∧
      (8#8).toNat = (8 : Fin 65).val ∧ pulling.pool.slots[(3 : SlotIx)] = .composing 0 (Vector.replicate 64 0x41#8) ∧
      pulling.sequence = .next 157#48 ∧ governs pulling.table 0x3001#16 0 pulling.table.rules[(2 : RuleIx)] ∧
      pulling.table.rules[(2 : RuleIx)].cls = .board 3 := by
  refine ⟨hub_fresh _ _ _ rfl rfl, rfl, by decide, by decide +kernel, rfl, ?_, by decide +kernel⟩
  unfold governs passes
  decide +kernel

theorem test_witness_TakeMovesTheNextEntryToTheHand :
    Fresh multicast (head 2) 0x20#8 ∧ multicast.sessions[(2 : Port)].phase = .opened (conn 1000#16 2000#16 3 3) ∧
      multicast.queues[(2 : Port)].hand[(1 : Handle)] = none ∧
      (∀ j : Handle, j < 1 → multicast.queues[(2 : Port)].hand[j] ≠ none) ∧
      nextIs multicast.queues[(2 : Port)] (entry 5 41#48 .normal 0)
        { multicast.queues[(2 : Port)] with normal := [entry 6 42#48 .normal 0] } ∧
      multicast.pool.slots[(5 : SlotIx)] = .live (message 41#48 0x0200#16 1 .queued 2) :=
  ⟨hub_fresh _ _ _ rfl rfl, rfl, by decide +kernel, by decide +kernel, .inr ⟨_, rfl, rfl, rfl⟩, by decide +kernel⟩

/-- P0's next entry is the URGENT head, whose slot is LIVE. -/
def peeking : State :=
  { lapsing 0 with
    pool :=
      { (lapsing 0).pool with
        slots := (lapsing 0).pool.slots.set 10 (.live (message 115#48 0#16 1 .queued 1)) } }

theorem test_witness_Peek_empty :
    Fresh mixed (head 1) 0x21#8 ∧ mixed.sessions[(1 : Port)].phase = .opened (conn 1000#16 2000#16 32 3) ∧
      mixed.queues[(1 : Port)].urgent = [] ∧ mixed.queues[(1 : Port)].normal = [] :=
  ⟨mixed_fresh _ _, rfl, rfl, rfl⟩

theorem test_witness_Renew_closing :
    Fresh mixed (head 2) 0x24#8 ∧ mixed.sessions[(2 : Port)].phase = .closing (conn 1000#16 2000#16 3 3) :=
  ⟨mixed_fresh _ _, rfl⟩

theorem test_witness_PeekReportsWithoutChange :
    Fresh peeking (head 0) 0x21#8 ∧ peeking.sessions[(0 : Port)].phase = .opened (conn 50#16 100#16 16 2) ∧
      nextIs peeking.queues[(0 : Port)] (entry 10 115#48 .urgent 0) { peeking.queues[(0 : Port)] with urgent := [] } ∧
      peeking.pool.slots[(10 : SlotIx)] = .live (message 115#48 0#16 1 .queued 1) :=
  ⟨hub_fresh _ _ _ rfl rfl, rfl, .inl ⟨_, rfl, rfl⟩, by decide +kernel⟩

def handFull : State :=
  { hub with
    queues :=
      hub.queues.set 1
        (queueOf [] [entry 9 9#48 .normal 0]
          (Vector.replicate 4 (inHand (entry 4 40#48 .normal 0) (running 1000#16)))) }

theorem test_witness_QueueRefusalsChangeNothing :
    Fresh handFull (head 1) 0x20#8 ∧ (∀ k : Handle, handFull.queues[(1 : Port)].hand[k] ≠ none) ∧
      handFull.queues[(0 : Port)].urgent = [] ∧ handFull.queues[(0 : Port)].normal = [] ∧
      (∃ k : Handle, handFull.queues[(0 : Port)].hand[k] = none) ∧ (3#8).toNat = (3 : Handle).val ∧
      (∀ x, handFull.queues[(1 : Port)].hand[(3 : Handle)] = some x → x.entry.sequence ≠ 41#48) ∧
      (∀ x, handFull.queues[(0 : Port)].hand[(3 : Handle)] = some x → x.entry.sequence ≠ 41#48) ∧
      (connOf handFull.sessions[(1 : Port)].phase).isSome = true ∧ openAt handFull 1 = true := by
  refine ⟨hub_fresh _ _ _ rfl rfl, by decide +kernel, rfl, rfl, by decide +kernel, rfl, ?_, ?_, rfl, rfl⟩
  · intro x hx
    have : handFull.queues[(1 : Port)].hand[(3 : Handle)] = inHand (entry 4 40#48 .normal 0) (running 1000#16) := by
      decide +kernel
    rw [this] at hx
    cases hx
    decide
  · intro x hx
    have : handFull.queues[(0 : Port)].hand[(3 : Handle)] = none := by decide +kernel
    rw [this] at hx
    cases hx

/-- P2 in CLOSING with one hand entry, P0 in CLOSING with two. -/
def leaving (due : Bool) : State :=
  let lease : Timer := { running 1000#16 with due := due }
  { hub with
    sessions := (hub.sessions.set 0 ⟨.closing (conn 50#16 100#16 16 2), 1#8⟩).set 2
      ⟨.closing (conn 1000#16 2000#16 3 3), 1#8⟩
    queues := (hub.queues.set 0 (queueOf [] [] #v[inHand (entry 4 40#48 .normal 0) lease, none, none,
      inHand (entry 5 41#48 .normal 1) lease])).set 2
      (queueOf [] [] #v[none, none, none, inHand (entry 6 42#48 .normal 1) lease]) }

theorem test_witness_ReleaseAndReturn_open :
    Fresh multicast (head 2) 0x22#8 ∧ Fresh multicast (head 2) 0x23#8 ∧ Fresh multicast (head 2) 0x24#8 ∧
      (0#8).toNat = (0 : Handle).val ∧
      multicast.queues[(2 : Port)].hand[(0 : Handle)] = inHand (entry 4 40#48 .normal 0) (running 1000#16) ∧
      (entry 4 40#48 .normal 0).sequence = 40#48 ∧
      multicast.sessions[(2 : Port)].phase = .opened (conn 1000#16 2000#16 3 3) :=
  ⟨hub_fresh _ _ _ rfl rfl, hub_fresh _ _ _ rfl rfl, hub_fresh _ _ _ rfl rfl, rfl, by decide +kernel, rfl, rfl⟩

theorem test_witness_ReleaseAndReturn_closing :
    Fresh (leaving false) (head 0) 0x22#8 ∧ Fresh (leaving false) (head 2) 0x23#8 ∧ (3#8).toNat = (3 : Handle).val ∧
      (leaving false).queues[(0 : Port)].hand[(3 : Handle)] = inHand (entry 5 41#48 .normal 1) (running 1000#16) ∧
      (leaving false).sessions[(0 : Port)].phase = .closing (conn 50#16 100#16 16 2) ∧ ¬lastInHand (leaving false) 0 3 ∧
      (leaving false).queues[(2 : Port)].hand[(3 : Handle)] = inHand (entry 6 42#48 .normal 1) (running 1000#16) ∧
      (leaving false).sessions[(2 : Port)].phase = .closing (conn 1000#16 2000#16 3 3) ∧ lastInHand (leaving false) 2 3 := by
  refine ⟨hub_fresh _ _ _ rfl rfl, hub_fresh _ _ _ rfl rfl, rfl, by decide +kernel, rfl, ?_, by decide +kernel, rfl, ?_⟩ <;>
    (unfold lastInHand; decide +kernel)

/-- Below the limit of 2 with count 0, at the limit with count 1; not due; and both CLOSING cases. -/
theorem test_witness_LeaseExpiry :
    (lapsing 0).resetN = true ∧
      (lapsing 0).queues[(0 : Port)].hand[(0 : Handle)] =
        inHand (entry 9 110#48 .urgent 0) { start := 0#32, duration := 50#16, due := true } ∧
      (lapsing 0).sessions[(0 : Port)].phase = .opened (conn 50#16 100#16 16 2) ∧ 0 + 1 < 2 ∧
      (lapsing 1).queues[(0 : Port)].hand[(0 : Handle)] =
        inHand (entry 9 110#48 .urgent 1) { start := 0#32, duration := 50#16, due := true } ∧ 1 + 1 = 2 ∧
      (running 1000#16).due = false ∧ (leaving true).sessions[(0 : Port)].phase = .closing (conn 50#16 100#16 16 2) ∧
      (leaving true).queues[(0 : Port)].hand[(3 : Handle)] =
        inHand (entry 5 41#48 .normal 1) { running 1000#16 with due := true } ∧ ¬lastInHand (leaving true) 0 3 ∧
      (leaving true).queues[(2 : Port)].hand[(3 : Handle)] =
        inHand (entry 6 42#48 .normal 1) { running 1000#16 with due := true } ∧ lastInHand (leaving true) 2 3 := by
  refine ⟨rfl, by decide +kernel, rfl, by decide, by decide +kernel, rfl, rfl, rfl, by decide +kernel, ?_, by decide +kernel, ?_⟩ <;>
    (unfold lastInHand; decide +kernel)

theorem test_witness_ReadBoardReturnsAndClearsTheMark :
    Fresh pulling (head 1) 0x30#8 ∧ pulling.sessions[(1 : Port)].phase = .opened (conn 1000#16 2000#16 32 3) ∧
      (3#8).toNat = (3 : BoardIx).val ∧ pulling.table.boards[(3 : BoardIx)].enabled = true ∧
      pulling.boards[(3 : BoardIx)].held = some 2 ∧
      pulling.pool.slots[(2 : SlotIx)] = .live (message 150#48 0x3001#16 0 .boarded 1) :=
  ⟨hub_fresh _ _ _ rfl rfl, rfl, rfl, by decide +kernel, by decide +kernel, by decide +kernel⟩

theorem test_witness_PullAppendsAPendingEntry :
    Fresh pulling (head 2) 0x31#8 ∧ pulling.table.boards[(3 : BoardIx)].supplier = some 0 ∧ (0 : Port) ≠ 2 ∧
      openAt pulling 0 = true ∧ ¬Statements.pulling pulling 2 3 ∧ (∀ o, ¬uncollected pulling 2 3 o) ∧
      pullsOf pulling 2 < 4 ∧ pulling.pulls.length < 12 := by
  refine ⟨hub_fresh _ _ _ rfl rfl, by decide +kernel, by decide, rfl, ?_, fun o => ?_, by decide, by decide⟩
  · rintro ⟨e, he, h, -⟩
    simp [Tests.pulling] at he
    rcases he with rfl | rfl <;> simp at h
  · rintro ⟨e, he, h, -⟩
    simp [Tests.pulling] at he
    rcases he with rfl | rfl <;> simp at h

def collecting : State :=
  { pulling with pulls := [⟨1, 3, .waiting { running 20#16 with due := true }⟩, ⟨3, 3, .done .expired⟩] }

theorem test_witness_CancelAndCollect :
    Fresh collecting (head 1) 0x32#8 ∧ Fresh collecting (head 3) 0x33#8 ∧
      collecting.pulls = [] ++ ⟨1, 3, .waiting { running 20#16 with due := true }⟩ :: [⟨3, 3, .done .expired⟩] ∧
      collecting.pulls = [⟨1, 3, .waiting { running 20#16 with due := true }⟩] ++ ⟨3, 3, .done .expired⟩ :: [] ∧
      (∀ x ∈ ([⟨3, 3, .done .expired⟩] : List Pull), ¬(x.requester = 1 ∧ x.board = 3)) ∧
      ∀ x ∈ ([⟨1, 3, .waiting { running 20#16 with due := true }⟩] : List Pull), ¬(x.requester = 3 ∧ x.board = 3) :=
  ⟨hub_fresh _ _ _ rfl rfl, hub_fresh _ _ _ rfl rfl, rfl, rfl, by decide, by decide⟩

/-- The entry of P1 is due; P3's is not waiting, so nothing of P3's is due. -/
theorem test_witness_PullExpiryEndsTheEntry :
    collecting.resetN = true ∧ ({ running 20#16 with due := true } : Timer).due = true ∧
      ∀ e ∈ collecting.pulls, e.requester = 3 → e.board = 3 → ∀ x, e.state = .waiting x → x.due = false := by
  refine ⟨rfl, rfl, ?_⟩
  intro e he hr _ x hx
  simp [collecting] at he
  rcases he with rfl | rfl
  · simp at hr
  · cases hx

/-- Boards 0 to 5 meet the conditions of R104 one by one: disabled, no supplier, own, absent supplier; and a
requester with four entries, and a list of twelve. -/
def boardCases : State :=
  { mixed with
    sessions := mixed.sessions.set 2 ⟨.opened (conn 1000#16 2000#16 3 3), 1#8⟩
    table := { table with boards := ((table.boards.set 1 ⟨true, none, 1#16⟩).set 2 ⟨true, some 1, 1#16⟩).set 4 ⟨true, some 2, 1#16⟩ }
    pulls := (List.finRange 4).map fun i => ⟨1, Fin.ofNat 32 (10 + i.val), .done .expired⟩ }

def fullList : State :=
  { boardCases with pulls := (List.finRange 12).map fun i => ⟨if i.val < 3 then 1 else 2, Fin.ofNat 32 (10 + i.val), .done .expired⟩ }

theorem test_witness_BoardRefusals :
    Fresh boardCases (head 1) 0x31#8 ∧ boardCases.table.boards[(0 : BoardIx)].enabled = false ∧
      boardCases.table.boards[(3 : BoardIx)].enabled = true ∧ boardCases.boards[(3 : BoardIx)].held = none ∧
      boardCases.table.boards[(1 : BoardIx)] = ⟨true, none, 1#16⟩ ∧ boardCases.table.boards[(2 : BoardIx)].supplier = some 1 ∧
      boardCases.table.boards[(3 : BoardIx)].supplier = some 0 ∧ openAt boardCases 0 = false ∧
      boardCases.table.boards[(4 : BoardIx)] = ⟨true, some 2, 1#16⟩ ∧ openAt boardCases 2 = true ∧
      4 ≤ pullsOf boardCases 1 ∧ pullsOf fullList 1 < 4 ∧ 12 ≤ fullList.pulls.length := by
  refine ⟨hub_fresh _ _ _ rfl rfl, ?_⟩
  decide +kernel

theorem test_witness_PullRefusals_entries :
    Statements.pulling collecting 1 3 ∧ ¬Statements.pulling collecting 3 3 ∧ uncollected collecting 3 3 .expired ∧
      (∀ o, ¬uncollected boardCases 1 4 o) ∧ (∀ o, ¬uncollected fullList 1 4 o) ∧ ¬Statements.pulling fullList 1 4 := by
  refine ⟨⟨_, List.mem_cons_self, rfl, rfl, _, rfl⟩, ?_, ⟨⟨3, 3, .done .expired⟩, by simp [collecting], rfl, rfl, rfl⟩, ?_, ?_, ?_⟩
  · rintro ⟨e, he, h, -, x, hx⟩
    simp [collecting] at he
    rcases he with rfl | rfl
    · simp at h
    · cases hx
  · rintro o ⟨e, he, -, h, -⟩
    have : ∀ e ∈ boardCases.pulls, e.board ≠ 4 := by decide +kernel
    exact this e he h
  · rintro o ⟨e, he, -, h, -⟩
    have : ∀ e ∈ fullList.pulls, e.board ≠ 4 := by decide +kernel
    exact this e he h
  · rintro ⟨e, he, -, h, -⟩
    have : ∀ e ∈ fullList.pulls, e.board ≠ 4 := by decide +kernel
    exact this e he h

/-- The claim held by P1, with the table of section 12.1 as shadow. -/
def held : State := { hub with claim := some ⟨1, table, running 2000#16⟩ }

theorem test_witness_Claim :
    Fresh hub (head 1) 0x40#8 ∧ hub.sessions[(1 : Port)].phase = .opened (conn 1000#16 2000#16 32 3) ∧ hub.claim = none ∧
      Fresh held (head 1) 0x40#8 ∧ held.claim = some ⟨1, table, running 2000#16⟩ ∧ Fresh held (head 3) 0x40#8 ∧ (1 : Port) ≠ 3 :=
  ⟨hub_fresh _ _ _ rfl rfl, rfl, rfl, hub_fresh _ _ _ rfl rfl, rfl, hub_fresh _ _ _ rfl rfl, by decide⟩

theorem test_witness_Edits :
    (63#8).toNat = (63 : RuleIx).val ∧ (31#8).toNat = (31 : BoardIx).val ∧ Fresh held (head 1) 0x41#8 ∧
      Fresh held (head 1) 0x42#8 ∧ Fresh held (head 1) 0x43#8 ∧
      ¬outOfRange (.editRule (head 1) 63#8 ⟨0xFF#8, 0#8, 0#16, 0#16, 0#8, 0#8, 0#16, 1#8, 2#8, 0xFF#8⟩) ∧
      ¬outOfRange (.editRule (head 1) 63#8 ⟨0xFF#8, 1#8, 0#16, 0#16, 0#8, 0#8, 0#16, 9#8, 9#8, 31#8⟩) ∧
      ¬outOfRange (.editBoard (head 1) 31#8 ⟨0xFF#8, 0xFF#8, 1#16⟩) ∧
      ¬outOfRange (.editBoard (head 1) 31#8 ⟨0xFF#8, 3#8, 0xFFFF#16⟩) := by
  refine ⟨rfl, rfl, hub_fresh _ _ _ rfl rfl, hub_fresh _ _ _ rfl rfl, hub_fresh _ _ _ rfl rfl, ?_, ?_, ?_, ?_⟩ <;>
    simp [outOfRange]

theorem test_witness_TableReads :
    (0#8 = 0#8 ∧ held.table = held.table) ∧
      (∃ x : Claim, 1#8 = 1#8 ∧ held.claim = some x ∧ x.holder = 1 ∧ table = x.shadow) ∧ Fresh held (head 1) 0x44#8 ∧
      Fresh held (head 1) 0x45#8 :=
  ⟨⟨rfl, rfl⟩, ⟨_, rfl, rfl, rfl, rfl⟩, hub_fresh _ _ _ rfl rfl, hub_fresh _ _ _ rfl rfl⟩

theorem test_witness_DropClaimAndCommit :
    Fresh held (head 1) 0x47#8 ∧ Fresh held (head 1) 0x46#8 ∧ held.claim = some ⟨1, table, running 2000#16⟩ ∧
      ∀ i : RuleIx, invalidity table table.rules[i] = none :=
  ⟨hub_fresh _ _ _ rfl rfl, hub_fresh _ _ _ rfl rfl, rfl, by decide +kernel⟩

def failing : Table := { table with rules := table.rules.set 3 { table.rules[(3 : RuleIx)] with source := ports false false false false } }

theorem test_witness_DropClaim_other :
    Fresh held (head 3) 0x47#8 ∧ held.sessions[(3 : Port)].phase = .opened (conn 1000#16 500#16 32 3) ∧
      ∀ x : Claim, held.claim = some x → x.holder ≠ 3 := by
  refine ⟨hub_fresh _ _ _ rfl rfl, rfl, ?_⟩
  intro x hx
  cases hx
  decide

theorem test_witness_ClaimUnitRefusals :
    (∀ x : Claim, held.claim = some x → x.holder ≠ 3) ∧ (∀ x : Claim, hub.claim = some x → x.holder ≠ 1) ∧
      (Instr.readRule (head 3) 63#8 1#8).request? = some ⟨head 3, 0x44#8, [63#8, 1#8]⟩ ∧ Fresh held (head 3) 0x44#8 ∧
      ¬outOfRange (.readRule (head 3) 63#8 1#8) ∧ invalidity failing failing.rules[(3 : RuleIx)] = some 1#8 ∧
      ∀ j : RuleIx, j < 3 → invalidity failing failing.rules[j] = none := by
  refine ⟨?_, ?_, rfl, hub_fresh _ _ _ rfl rfl, by simp [outOfRange], by decide +kernel, by decide +kernel⟩
  · intro x hx; cases hx; decide
  · intro x hx; cases hx

theorem test_witness_ClaimLapse :
    hub.resetN = true ∧ ({ running 2000#16 with due := true } : Timer).due = true ∧
      ∀ x : Claim, held.claim = some x → x.timer.due = false := by
  refine ⟨rfl, rfl, ?_⟩
  intro x hx
  cases hx
  rfl

theorem test_witness_StatusReportsThePicture :
    Fresh mixed (head 3) 0x50#8 ∧ topReasonIs mixed 3 1 ∧ topReasonIs mixed 1 0 := by
  refine ⟨mixed_fresh _ _, .inr ⟨0, rfl, ⟨by decide +kernel, .inl rfl⟩, by simp⟩, .inl ⟨rfl, ?_⟩⟩
  have h : pendingReasons mixed 1 = List.replicate 10 false := by decide +kernel
  rintro k ⟨hk, -⟩
  rw [h, List.getElem?_replicate] at hk
  split at hk <;> simp at hk

theorem test_witness_AcknowledgeAndMask :
    (connOf mixed.sessions[(2 : Port)].phase).isSome = true ∧
      (∀ k, 10 ≤ k → k ≤ 15 → (0x03FF#16).getLsbD k = false) ∧ Fresh mixed (head 2) 0x51#8 ∧ Fresh mixed (head 2) 0x52#8 := by
  refine ⟨rfl, ?_, mixed_fresh _ _, mixed_fresh _ _⟩
  intro k h1 h2
  interval_cases k <;> decide

theorem test_witness_StatsReportsThenClears :
    Fresh held (head 1) 0x53#8 ∧ held.sessions[(1 : Port)].phase ≠ .fenced ∧ Fresh mixed (head 0) 0x53#8 ∧
      mixed.sessions[(0 : Port)].phase ≠ .fenced :=
  ⟨hub_fresh _ _ _ rfl rfl, by decide +kernel, mixed_fresh _ _, by decide +kernel⟩

theorem test_witness_MicrosecondAdvancesTheTimeBase :
    hub.resetN = true ∧ hub.tickPhase ≠ 999 ∧ ({ hub with tickPhase := 999 } : State).tickPhase = 999 := by decide +kernel

/-- A lease of 1 ms set 1 µs before a tick: not due at that tick, due at the next, 1001 µs later. -/
theorem test_witness_LeaseFallsDueAtItsFirstTick :
    let s : State := { hub with
      tickPhase := 999
      queues := hub.queues.set 0 (queueOf [] [] #v[inHand (entry 4 40#48 .normal 0) (timer 0#32 1#16), none, none, none]) }
    s.resetN = true ∧ s.queues[(0 : Port)].hand[(0 : Handle)] =
        some { entry := entry 4 40#48 .normal 0, lease := timer s.timeBase 1#16 } ∧ 1#16 ≠ 0#16 ∧ 1001 < 2 ^ 32 ∧
      (s.tickPhase.val + 1001) % 1000 = 0 ∧ (1#16).toNat * 1000 ≤ 1001 := by decide +kernel

/-! ### A state that meets every invariant: P0 CLOSING, P1 and P2 OPEN, P3 FENCED -/

def busyTable : Table := { table with boards := table.boards.set 3 { enabled := true, supplier := some 2, pullTimeout := 20#16 } }

/-- The hand of P0 holds slot 2, the lane of P2 slot 5, both hold slot 4; board 3 holds slot 3; P1 composes slot 7. -/
def busy : State :=
  State.settle
    { hub with
      pending := [.submit (head 1) 7 0x0201#16 8#8]
      table := busyTable
      sequence := .next 43#48
      claim := some ⟨1, busyTable, running 2000#16⟩
      sessions := #v[⟨.closing (conn 50#16 100#16 16 2), 1#8⟩, ⟨.opened (conn 1000#16 2000#16 32 3), 1#8⟩,
        ⟨.opened (conn 1000#16 2000#16 3 3), 1#8⟩, ⟨.fenced, 1#8⟩]
      pool :=
        { hub.pool with
          slots := ((((hub.pool.slots.set 2 (.live (message 38#48 0x0100#16 1 .queued 1))).set 3
            (.live (message 39#48 0x3000#16 0 .boarded 1))).set 4 (.live (message 40#48 0x0200#16 1 .queued 2))).set 5
            (.live (message 41#48 0x0200#16 1 .queued 1))).set 7 (.composing 1 (Vector.replicate 64 0#8))
          freeList := (List.finRange 256).filter fun i => i.val < 2 || i.val = 6 || 7 < i.val }
      queues := #v[queueOf [] [] #v[inHand (entry 2 38#48 .urgent 1) (running 50#16), none,
          inHand (entry 4 40#48 .normal 0) (running 50#16), none], Queue.initial,
        queueOf [] [entry 4 40#48 .normal 0, entry 5 41#48 .normal 2] (Vector.replicate 4 none), Queue.initial]
      boards := hub.boards.set 3 { Board.blank with held := some 3, lastSequence := 39#48, unread := ports false true false false }
      pulls := [⟨1, 3, .waiting (running 20#16)⟩] }

theorem busy_next : ∃ t, step busy = .next t := Laws.step_next busy

theorem test_witness_FreeListHoldsExactlyTheFreeSlots : freeListExact busy ∧ ∃ t, step busy = .next t := by
  refine ⟨?_, busy_next⟩
  unfold freeListExact
  decide +kernel

theorem test_witness_WantedSetsAndLines : Settled busy ∧ heldInReset busy ∧ ∃ t, step busy = .next t :=
  ⟨⟨State.settle_wantedExact _, State.settle_linesExact _⟩, fun h => absurd h (by decide +kernel), busy_next⟩

theorem test_witness_ActiveTableStaysLawful : tableLawful busy.table ∧ ∃ t, step busy = .next t := by
  refine ⟨?_, busy_next⟩
  unfold tableLawful
  decide +kernel

theorem test_witness_LanesStayInSequenceOrder : lanesOrdered busy ∧ ∃ t, step busy = .next t := by
  refine ⟨?_, busy_next⟩
  have h : busy.sequence = .next 43#48 := rfl
  unfold lanesOrdered queueOrdered ascending
  rw [h]
  simp only [counterLegal, givenBefore]
  decide +kernel

theorem test_witness_ClosedPortsHoldNothing :
    closedHoldsNothing busy ∧ holderOpen busy ∧ composersOpen busy ∧ ∃ t, step busy = .next t := by
  have hc : ∀ c, busy.claim = some c → c.holder = 1 := by
    intro c h
    cases h
    rfl
  refine ⟨⟨?_, ?_, ?_⟩, ?_, ?_, busy_next⟩
  · have h : ∀ p : Port, busy.isOpen p = false → busy.queues[p].urgent = [] ∧ busy.queues[p].normal = [] ∧
        (∀ i : SlotIx, busy.pool.slots[i].composedBy p = false) ∧ (∀ b : BoardIx, busy.boards[b].unread[p] = false) ∧
        (∀ e ∈ busy.pulls, e.requester ≠ p) ∧ p ≠ 1 := by decide +kernel
    intro p hp
    obtain ⟨h1, h2, h3, h4, h5, h6⟩ := h p hp
    exact ⟨h1, h2, h3, h4, h5, fun c hx => by rw [hc c hx]; exact h6.symm⟩
  · decide +kernel
  · have h : ∀ p : Port, busy.queues[p].handCount ≠ 0 ∨ busy.sessions[p].phase.state ≠ .closing := by decide +kernel
    intro p c hp
    rcases h p with h | h
    · exact h
    · rw [hp] at h
      exact absurd rfl h
  · intro c hx
    rw [hc c hx]
    rfl
  · intro i p
    have h : ∀ (p : Port), busy.isOpen p = true ∨ ∀ i : SlotIx, busy.pool.slots[i].composedBy p = false := by decide +kernel
    rcases h p with h | h
    · exact fun _ => h
    · intro h'
      rw [h i] at h'
      cases h'

/-- The parameters of the ports of `busy` that are in session. -/
theorem busy_conn {p : Port} {c : Conn} (h : busy.sessions[p].phase.conn? = some c) :
    (p = 0 ∧ c = conn 50#16 100#16 16 2) ∨ (p = 1 ∧ c = conn 1000#16 2000#16 32 3) ∨
      (p = 2 ∧ c = conn 1000#16 2000#16 3 3) := by
  have hp : ∀ q : Port, q = 0 ∨ q = 1 ∨ q = 2 ∨ q = 3 := by decide
  rcases hp p with rfl | rfl | rfl | rfl
  · exact .inl ⟨rfl, (Option.some.inj h).symm⟩
  · exact .inr (.inl ⟨rfl, (Option.some.inj h).symm⟩)
  · exact .inr (.inr ⟨rfl, (Option.some.inj h).symm⟩)
  · exact absurd (show none = some c from h) (by simp)

theorem test_witness_SessionLimitsAreKept :
    closedHoldsNothing busy ∧ (paramsLegal busy ∧ occupancyBounded busy ∧ composingBounded busy ∧
      redeliveryBelowLimit busy) ∧ ∃ t, step busy = .next t := by
  refine ⟨test_witness_ClosedPortsHoldNothing.1, ⟨?_, ?_, ?_, ?_⟩, busy_next⟩
  · intro p c h
    rcases busy_conn h with ⟨rfl, rfl⟩ | ⟨rfl, rfl⟩ | ⟨rfl, rfl⟩ <;>
      refine ⟨by decide, by decide, by decide, by decide, by decide, by decide, by decide, ?_⟩ <;>
      (intro t ht; cases ht; decide)
  · intro p c h
    rcases busy_conn h with ⟨rfl, rfl⟩ | ⟨rfl, rfl⟩ | ⟨rfl, rfl⟩ <;> decide +kernel
  · intro p c h
    have h' : busy.sessions[p].phase.conn? = some c := by rw [h]; rfl
    rcases busy_conn h' with ⟨rfl, rfl⟩ | ⟨rfl, rfl⟩ | ⟨rfl, rfl⟩ <;> decide +kernel
  · intro p c h
    rcases busy_conn h with ⟨rfl, rfl⟩ | ⟨rfl, rfl⟩ | ⟨rfl, rfl⟩ <;> decide +kernel

theorem test_witness_PullListKeepsItsBounds : (pullsBounded busy ∧ pullsSupplied busy) ∧ ∃ t, step busy = .next t := by
  refine ⟨?_, busy_next⟩
  unfold pullsBounded pullsSupplied
  decide +kernel

theorem test_witness_BoardRecordsStayConsistent : 
    tableLawful busy.table ∧ counterLegal busy.sequence ∧ boardsConsistent busy ∧ ∃ t, step busy = .next t := by
  refine ⟨test_witness_ActiveTableStaysLawful.1, by show (0 < _); decide, ?_, busy_next⟩
  unfold boardsConsistent boardConsistent
  decide +kernel

theorem test_witness_MasksAndFlagsStayLegal :
    holderOpen busy ∧ (masksLegal busy ∧ latchesLegal busy) ∧ ∃ t, step busy = .next t := by
  refine ⟨test_witness_ClosedPortsHoldNothing.2.1, ⟨by unfold masksLegal; decide +kernel, fun p => ?_⟩, busy_next⟩
  have h : ∀ q : Port, busy.attention[q].latched = .clear := by decide +kernel
  rw [h p]
  exact ⟨fun _ => rfl, fun _ _ => rfl⟩

theorem test_witness_ReferencesCountTheHolders :
    freeListExact busy ∧ referencesExact busy ∧ ∃ t, step busy = .next t := by
  refine ⟨test_witness_FreeListHoldsExactlyTheFreeSlots.1, ?_, busy_next⟩
  have h : ∀ i : SlotIx, (i = 2 ∨ i = 3 ∨ i = 4 ∨ i = 5 ∨ i = 7) ∨
      (busy.pool.slots[i] = .free ∧ boardsHolding busy i = 0 ∧ holdersOf busy i = 0) := by decide +kernel
  intro i
  unfold slotHeld
  rcases h i with (rfl | rfl | rfl | rfl | rfl) | ⟨h1, h2⟩
  · rw [show busy.pool.slots[(2 : SlotIx)] = .live (message 38#48 0x0100#16 1 .queued 1) by decide +kernel]
    show _ ∧ _
    decide +kernel
  · rw [show busy.pool.slots[(3 : SlotIx)] = .live (message 39#48 0x3000#16 0 .boarded 1) by decide +kernel]
    show _ ∧ _
    decide +kernel
  · rw [show busy.pool.slots[(4 : SlotIx)] = .live (message 40#48 0x0200#16 1 .queued 2) by decide +kernel]
    show _ ∧ _
    decide +kernel
  · rw [show busy.pool.slots[(5 : SlotIx)] = .live (message 41#48 0x0200#16 1 .queued 1) by decide +kernel]
    show _ ∧ _
    decide +kernel
  · rw [show busy.pool.slots[(7 : SlotIx)] = .composing 1 (Vector.replicate 64 0#8) by decide +kernel]
    show _ ∧ _
    decide +kernel
  · rw [h1]
    exact h2

def seqOf : Slot → Option Seq
  | .live m => some m.sequence
  | _ => none

theorem test_witness_SequencesAreGivenOnce : sequencesUnique busy ∧ ∃ t, step busy = .next t := by
  refine ⟨?_, busy_next⟩
  have h : ∀ i : SlotIx, seqOf busy.pool.slots[i] = none ∨
      (seqOf busy.pool.slots[i] = some (BitVec.ofNat 48 (i.val + 36)) ∧ i.val < 7) := by decide +kernel
  have live : ∀ (i : SlotIx) (m : Message), busy.pool.slots[i] = .live m →
      m.sequence = BitVec.ofNat 48 (i.val + 36) ∧ i.val < 7 := by
    intro i m hm
    have hi := h i
    rw [hm] at hi
    rcases hi with hi | ⟨hi, hl⟩
    · cases hi
    · exact ⟨Option.some.inj hi, hl⟩
  refine ⟨by show (0 < _); decide, fun i m hm => ?_, fun i j m m' hi hj he => ?_⟩
  · obtain ⟨h1, h2⟩ := live i m hm
    show 0 < m.sequence.toNat ∧ m.sequence.toNat < (43#48).toNat
    rw [h1]
    simp
    omega
  · obtain ⟨h1, h2⟩ := live i m hi
    obtain ⟨h3, h4⟩ := live j m' hj
    rw [h1, h3] at he
    have := congrArg BitVec.toNat he
    simp at this
    exact Fin.ext (by omega)

end Sys2Proof.Tests
end

/-! ### Proofs: what an executed request leaves

The statements compare the state before and after through `blocks`, `Responded`, `InPhase` and `Settled`. Here each of
them is tied, once, to the model's own updates; a proof about a request then names the request's action alone. -/

namespace Sys2Proof.Proofs

open Sys2Proof.Machine Sys2Proof.Statements Sys2Proof.Laws

/-! #### The blocks after the updates every request shares -/

@[simp] theorem blocks_settle (s : State) : blocks s.settle = blocks s := by
  simp [blocks]

@[simp] theorem blocks_answer (s : State) (h : Head) (code : Byte) (r : Reply) :
    blocks (s.answer h code r) = blocks s := rfl

@[simp] theorem blocks_hear (s : State) (p : Port) : blocks (s.hear p) = blocks s := rfl

theorem blocks_setQueue (s : State) (p : Port) (q : Queue) :
    blocks (s.setQueue p q) = { blocks s with queues := s.queues.set p q } := rfl

theorem settle_settled (s : State) : Settled s.settle := ⟨s.settle_wantedExact, s.settle_linesExact⟩

/-! #### The session and the link after a request -/

/-- Hearing a request leaves the sessions as the statements write them (R140). -/
theorem hear_inPhase (s : State) (p : Port) : InPhase s (s.hear p) p (heardPhase s p) := by
  have hp : (s.sessions[p].phase.mapConn fun c => c.heard s.timeBase) = heardPhase s p := by
    unfold heardPhase
    cases s.sessions[p].phase <;> rfl
  rw [InPhase, State.hear_sessions, hp]

/-- The link records after an answer are as R170 says, where what was done before it left them alone. -/
theorem answer_responded {s u : State} (hl : u.links = s.links) (h : Head) (code : Byte) (o : OutcomeCode)
    (content : List Byte) :
    Responded s (u.answer h code ⟨o, content⟩).settle h code o content
      (if forgetsNumber code o then none else some h.number) := by
  simp [Responded, State.response, state_eq, hl]

/-- A fresh request completes in the state its action gives, answered and settled (R166, R170). -/
theorem completes_of_action {c : Instr} {s u : State} {h : Head} {code : Byte} {act : Action} {o : OutcomeCode}
    {content : List Byte} {P : State → Prop} (hx : exec c s = .next (s.request h code act)) (hf : Fresh s h code)
    (ha : act (s.hear h.port) = (⟨o, content⟩, u)) (hP : P (u.answer h code ⟨o, content⟩).settle) :
    Completes c s P :=
  ⟨_, by rw [hx, request_executed hf.1 (isDuplicate_false hf.2) ha], hP⟩

/-- A request whose action leaves links and sessions alone is executed, and its blocks are those of the action. -/
theorem completes_executed {c : Instr} {s u : State} {h : Head} {code : Byte} {act : Action} {o : OutcomeCode}
    {content : List Byte} (hx : exec c s = .next (s.request h code act)) (hf : Fresh s h code)
    (ha : act (s.hear h.port) = (⟨o, content⟩, u)) (hn : forgetsNumber code o = false) (hl : u.links = s.links)
    (hs : u.sessions = (s.hear h.port).sessions) :
    Completes c s fun t => Executed s t h code o content ∧ blocks t = blocks u := by
  refine completes_of_action hx hf ha ⟨⟨?_, ?_, settle_settled _⟩, by simp⟩
  · simpa [hn] using answer_responded hl h code o content
  · exact hs.trans (hear_inPhase s h.port)

/-- A request whose action only replies changes no block. -/
theorem completes_unchanged {c : Instr} {s : State} {h : Head} {code : Byte} {act : Action} {o : OutcomeCode}
    {content : List Byte} (hx : exec c s = .next (s.request h code act)) (hf : Fresh s h code)
    (ha : act (s.hear h.port) = (⟨o, content⟩, s.hear h.port)) (hn : forgetsNumber code o = false) :
    Completes c s fun t => Unchanged s t h code o content :=
  completes_executed (u := s.hear h.port) hx hf ha hn rfl rfl

/-- A request whose action ends the port's session leaves it CLOSED, and its blocks are those of the action. -/
theorem completes_closed {c : Instr} {s u : State} {h : Head} {code : Byte} {act : Action} {o : OutcomeCode}
    {content : List Byte} (hx : exec c s = .next (s.request h code act)) (hf : Fresh s h code)
    (ha : act (s.hear h.port) = (⟨o, content⟩, u)) (hn : forgetsNumber code o = false) (hl : u.links = s.links)
    (hs : InPhase (s.hear h.port) u h.port .closed) :
    Completes c s fun t =>
      Responded s t h code o content (some h.number) ∧ InPhase s t h.port .closed ∧ Settled t ∧
        blocks t = blocks u := by
  refine completes_of_action hx hf ha ⟨?_, ?_, settle_settled _, by simp⟩
  · simpa [hn] using answer_responded hl h code o content
  · simpa [InPhase] using hs

/-! #### Counters and slots -/

theorem satAdd_eq_raised (c : Half) (n : Nat) : satAdd c n = raised c n := by
  unfold satAdd raised
  split
  · rw [Nat.min_eq_right (by omega)]
  · rw [Nat.min_eq_left (by omega)]

/-- A slot after the reference drops of one event is as R14 and R15 say. -/
theorem iterate_dropped_eq_afterDrops (k : Nat) (sl : Slot) : Slot.dropped^[k] sl = afterDrops sl k := by
  cases sl with
  | free => exact Function.iterate_fixed rfl k
  | composing owner payload => exact Function.iterate_fixed rfl k
  | live m =>
    by_cases hk : k = 0
    · subst hk; rfl
    · rw [iterate_dropped_live k m hk]; simp [afterDrops, hk]

theorem newlyFree_eq_freedBy (before after : Vector Slot 256) : newlyFree before after = freedBy before after := by
  unfold newlyFree freedBy
  congr 1
  funext i
  rw [Bool.eq_iff_iff]
  simp [← isFree_iff]

/-- The pool after an event, slot by slot (R2, R4). -/
theorem after_eq_poolAfter {pl : Pool} {slots : Vector Slot 256} {f : SlotIx → Slot}
    (hf : ∀ i : SlotIx, slots[i] = f i) :
    pl.after slots = poolAfter pl f := by
  have hv : slots = Vector.ofFn f := by
    ext i hi
    simpa using hf ⟨i, hi⟩
  simp only [Pool.after, poolAfter, newlyFree_eq_freedBy, hv]

/-- The pool after one hand entry let go of its slot (R14). -/
theorem drop_one_eq_poolLess (pl : Pool) (e : Entry) : pl.drop [e.slot] = poolLess pl e :=
  after_eq_poolAfter fun i => by
    rw [dropAll_get, iterate_dropped_eq_afterDrops, List.count_singleton]
    simp

/-! ### Proofs: hands and leases -/

/-! #### What the queue operations give -/

/-- The entry the statements look at is the one the model takes next (R66). -/
theorem nextEntry_of_nextIs {q rest : Queue} {e : Entry} (h : nextIs q e rest) : q.nextEntry = some e := by
  rcases h with ⟨es, hu, -⟩ | ⟨es, hu, hn, -⟩
  · exact (nextEntry_urgent hu).1
  · exact (nextEntry_normal hu hn).1

theorem nextEntry_empty {q : Queue} (hu : q.urgent = []) (hn : q.normal = []) : q.nextEntry = none := by
  simp [Queue.nextEntry, hu, hn]

/-- TAKE's and PEEK's record of an entry whose slot is LIVE, as the link lays it out (spec/10 section 10.6). -/
theorem entryRecord_live {s : State} {e : Entry} {m : Message} (first : Byte) (hm : s.pool.slots[e.slot] = .live m) :
    s.entryRecord first e = record first e.slot e.sequence (laneCode e.lane) (BitVec.ofNat 8 e.redelivery) m := by
  rw [State.entryRecord, message_live hm, recordHead, record, sequenceBytes_eq, halfBytes_eq, halfBytes_eq, leBytes_eq,
    laneByte_eq]
  rfl

/-- An entry leaves the hand for its lane, at its place by sequence (R71, R76). -/
theorem queueTakesBack_putBack (q : Queue) (k : Handle) (e : Entry) :
    queueTakesBack q ((q.freeHandle k).putBack e) k e := by
  unfold queueTakesBack Queue.putBack
  cases e.lane with
  | urgent => exact ⟨_, insertBySequence_split e q.urgent, rfl⟩
  | normal => exact ⟨_, insertBySequence_split e q.normal, rfl⟩

/-- RELEASE, RETURN and RENEW act on the entry their operands name, by position and sequence (R69). -/
theorem namedEntry_acts {s : State} {p : Port} {handle : Byte} {k : Handle} {n : Seq} {x : HandEntry}
    {act : Handle → HandEntry → Action} (hk : handle.toNat = k.val) (hx : s.queues[p].hand[k] = some x)
    (hn : x.entry.sequence = n) :
    withArgument (indexOf 4 handle) (fun k => withHandEntry p k n (act k)) s = act k x s := by
  rw [indexOf_some hk, withArgument_some]
  exact withHandEntry_holds hx hn

/-! #### A hand entry that ends -/

/-- A hand entry discarded and counted: its position free, its reference dropped (R71, R81). -/
theorem blocks_discardEntry (s : State) (p : Port) (k : Handle) (e : Entry) :
    blocks ((s.endHandEntry p k e).countDiscards p 1) =
      endedBlocks s p k e fun q => { q with discard := raised q.discard 1 } := by
  simp [blocks, endedBlocks, drop_one_eq_poolLess, satAdd_eq_raised, Queue.freeHandle]

/-- Draining leaves a state as it is while an entry stands in the port's hand (R147). -/
theorem drained_eq_self {s : State} {p : Port} (h : s.queues[p].handCount ≠ 0) : s.drained p = s := by
  rcases s.drained_cases p with ⟨hd, -⟩ | ⟨-, h0, -⟩
  · exact hd
  · exact absurd h0 h

/-- Draining ends the session of a CLOSING port with an empty hand (R147). -/
theorem drained_eq_closed {s : State} {p : Port} {c : Conn} (hp : s.sessions[p].phase = .closing c)
    (h : s.queues[p].handCount = 0) : s.drained p = (s.setPhase p .closed).setLatched p .clear := by
  rcases s.drained_cases p with ⟨-, hn⟩ | ⟨hd, -⟩
  · exact absurd h (hn c hp)
  · exact hd

/-- Clearing a port's latched reasons as its session ends, in the blocks. -/
theorem blocks_closed_clear (s : State) (p : Port) :
    blocks ((s.setPhase p .closed).setLatched p .clear) =
      { blocks s with latched := (s.attention.map fun a => a.latched).set p unlatched } := by
  have hmask : (s.attention.map fun a => a.mask).set p s.attention[p].mask = s.attention.map fun a => a.mask := by
    simpa using Vector.set_getElem_self (xs := s.attention.map fun a => a.mask) (i := p.val) p.isLt
  simpa [blocks, Vector.map_set, latchedClear_eq] using hmask

/-- After an entry is discarded the hand is empty exactly when it was the last one. -/
theorem discardEntry_handCount (s : State) (p : Port) (k : Handle) (e : Entry) :
    ((s.endHandEntry p k e).countDiscards p 1).queues[p].handCount = 0 ↔ lastInHand s p k := by
  have : ((s.endHandEntry p k e).countDiscards p 1).queues[p].handCount = (s.queues[p].freeHandle k).handCount := by
    simp [Queue.handCount, Queue.handEntries]
  rw [this, freeHandle_handCount, lastInHand]

/-- Hearing a request moves no hand entry. -/
theorem lastInHand_hear (s : State) (p q : Port) (k : Handle) : lastInHand (s.hear p) q k ↔ lastInHand s q k := by
  simp only [lastInHand, State.hear_queues]

/-- RETURN's discard, where other entries stay in the hand. -/
theorem returnDiscards_others {s : State} {p : Port} {k : Handle} (x : HandEntry) (hl : ¬lastInHand s p k) :
    returnDiscards p k x s = (⟨.ok, [1#8]⟩, (s.endHandEntry p k x.entry).countDiscards p 1) := by
  rw [returnDiscards, drained_eq_self (mt (discardEntry_handCount s p k x.entry).1 hl)]

/-- RETURN's discard of the last entry of a CLOSING hand. -/
theorem returnDiscards_last {s : State} {p : Port} {c : Conn} {k : Handle} (x : HandEntry)
    (hc : s.sessions[p].phase = .closing c) (hl : lastInHand s p k) :
    returnDiscards p k x s =
      (⟨.ok, [1#8]⟩,
        (((s.endHandEntry p k x.entry).countDiscards p 1).setPhase p .closed).setLatched p .clear) := by
  have hc' : ((s.endHandEntry p k x.entry).countDiscards p 1).sessions[p].phase = .closing c := hc
  rw [returnDiscards, drained_eq_closed hc' ((discardEntry_handCount s p k x.entry).2 hl)]

/-! #### PEEK (R67) -/

theorem peekAction_some {s : State} {p : Port} {e : Entry} (h : s.queues[p].nextEntry = some e) :
    peekAction p s = (⟨.ok, s.entryRecord 0xFF#8 e⟩, s) := by
  simp only [peekAction, h]

theorem peekAction_none {s : State} {p : Port} (h : s.queues[p].nextEntry = none) :
    peekAction p s = (⟨.empty, []⟩, s) := by
  simp only [peekAction, h]
  rfl

/-- Settles O24: PEEK's action replies from the next entry and hands its state back. -/
theorem peekReportsWithoutChange : Obligations.PeekReportsWithoutChange := by
  intro h s c hf hc
  refine ⟨fun e rest m hnext hm => completes_unchanged rfl hf ?_ rfl,
    fun hu hn => completes_unchanged rfl hf ?_ rfl⟩
  · have he : (s.hear h.port).queues[h.port].nextEntry = some e := nextEntry_of_nextIs hnext
    rw [whenOpen_opened hc, peekAction_some he, entryRecord_live 0xFF#8 (s := s.hear h.port) hm]
  · have he : (s.hear h.port).queues[h.port].nextEntry = none := nextEntry_empty hu hn
    rw [whenOpen_opened hc, peekAction_none he]

/-! #### RETURN (R71) -/

section Return

variable {h : Head} {s : State} {c : Conn} {handle : Byte} {k : Handle} {n : Seq} {x : HandEntry}

/-- RETURN's action on a named hand entry in OPEN. -/
theorem returnAction_opened (hc : s.sessions[h.port].phase = .opened c) (hk : handle.toNat = k.val)
    (hx : s.queues[h.port].hand[k] = some x) (hn : x.entry.sequence = n) :
    returnAction h.port handle n (s.hear h.port) = returnToLane h.port k x (s.hear h.port) := by
  rw [returnAction, whenInSession_opened hc]
  exact namedEntry_acts hk hx hn

/-- RETURN's action on a named hand entry in CLOSING. -/
theorem returnAction_closing (hc : s.sessions[h.port].phase = .closing c) (hk : handle.toNat = k.val)
    (hx : s.queues[h.port].hand[k] = some x) (hn : x.entry.sequence = n) :
    returnAction h.port handle n (s.hear h.port) = returnDiscards h.port k x (s.hear h.port) := by
  rw [returnAction, whenInSession_closing hc]
  exact namedEntry_acts hk hx hn

end Return

/-- Settles O27, by the three cases of R71: OPEN, CLOSING with entries left, CLOSING with the last one. -/
theorem returnGivesTheEntryBack : Obligations.ReturnGivesTheEntryBack := by
  intro h s handle k n x hf hk hx hn
  refine ⟨fun c hc => ?_, fun c hc hl => ?_, fun c hc hl => ?_⟩
  · obtain ⟨t, ht, hexec, hb⟩ := completes_executed (c := .giveBack h handle n) rfl hf
      (returnAction_opened hc hk hx hn) rfl rfl rfl
    exact ⟨t, ht, hexec, _, queueTakesBack_putBack s.queues[h.port] k x.entry, hb.trans (blocks_setQueue _ _ _)⟩
  · have ha := (returnAction_closing hc hk hx hn).trans (returnDiscards_others x (mt (lastInHand_hear _ _ _ _).1 hl))
    obtain ⟨t, ht, hexec, hb⟩ := completes_executed (c := .giveBack h handle n) rfl hf ha rfl rfl rfl
    exact ⟨t, ht, hexec, hb.trans (blocks_discardEntry _ _ _ _)⟩
  · have ha := (returnAction_closing hc hk hx hn).trans 
      (returnDiscards_last x (hear_closing hc) ((lastInHand_hear _ _ _ _).2 hl))
    obtain ⟨t, ht, hresp, hphase, hset, hb⟩ := completes_closed (c := .giveBack h handle n) rfl hf ha rfl rfl rfl
    refine ⟨t, ht, hresp, hphase, hset, hb.trans ?_⟩
    rw [blocks_closed_clear, blocks_discardEntry]
    rfl

/-! #### RENEW (R72) -/

/-- RENEW's action on a named hand entry in OPEN. -/
theorem renew_opened {h : Head} {s : State} {c : Conn} {handle : Byte} {k : Handle} {n : Seq} {x : HandEntry}
    (hc : s.sessions[h.port].phase = .opened c) (hk : handle.toNat = k.val) (hx : s.queues[h.port].hand[k] = some x)
    (hn : x.entry.sequence = n) :
    (whenOpen h.port fun c =>
      withArgument (indexOf 4 handle) fun k => withHandEntry h.port k n (renewLease h.port c k)) (s.hear h.port) =
      renewLease h.port (c.heard s.timeBase) k x (s.hear h.port) := by
  rw [whenOpen_opened hc]
  exact namedEntry_acts hk hx hn

/-- A request taken in OPEN only is refused in CLOSING (R136). -/
theorem whenOpen_closing {s : State} {p : Port} {c : Conn} {act : Conn → Action}
    (hc : s.sessions[p].phase = .closing c) : whenOpen p act (s.hear p) = (⟨.closing, []⟩, s.hear p) := by
  simp only [whenOpen, hear_closing hc]
  rfl

/-- Settles O28: RENEW's action in OPEN replaces the lease of the named entry; in CLOSING the session check refuses. -/
theorem renewRestartsTheLease : Obligations.RenewRestartsTheLease := by
  intro h s c handle n hf
  refine ⟨fun k x hc hk hx hn => ?_, fun hc => completes_unchanged rfl hf (whenOpen_closing hc) rfl⟩
  obtain ⟨t, ht, hexec, hb⟩ := completes_executed (c := .renew h handle n) rfl hf
    (renew_opened hc hk hx hn) rfl rfl rfl
  exact ⟨t, ht, hexec, hb.trans (blocks_setQueue _ _ _)⟩

end Sys2Proof.Proofs

/-! ### Proofs: the claim, the commit and the counters -/

namespace Sys2Proof.Proofs

open Sys2Proof.Machine Sys2Proof.Statements Sys2Proof.Laws

/-! #### A request taken in OPEN (R136) -/

/-- A fresh request of an OPEN port is executed as its action says, where the action leaves links and sessions alone. -/
theorem completes_in_open {i : Instr} {s u : State} {h : Head} {code : Byte} {c : Conn} {act : Conn → Action}
    {o : OutcomeCode} {content : List Byte} {b : Blocks}
    (hx : exec i s = .next (s.request h code (whenOpen h.port act))) (hf : Fresh s h code)
    (hc : s.sessions[h.port].phase = .opened c)
    (ha : act (c.heard s.timeBase) (s.hear h.port) = (⟨o, content⟩, u)) (hn : forgetsNumber code o = false)
    (hl : u.links = s.links) (hs : u.sessions = (s.hear h.port).sessions) (hb : blocks u = b) :
    Completes i s fun t => Executed s t h code o content ∧ blocks t = b := by
  rw [← hb]
  exact completes_executed hx hf ((whenOpen_opened hc).trans ha) hn hl hs

/-! #### CLAIM (R120) -/

theorem claimAction_free {s : State} (p : Port) (hn : s.claim = none) :
    claimAction p s =
      (⟨.ok, [BitVec.ofNat 8 p.val] ++ le 2 s.generation.toNat⟩,
        { s with claim := some { holder := p, shadow := s.table, timer := timer s.timeBase 2000#16 } }) := by
  simp only [claimAction, claimReply, halfBytes_eq, hn]
  rfl

theorem claimAction_holder {s : State} {p : Port} {x : Claim} (hx : s.claim = some x) (hp : x.holder = p) :
    claimAction p s =
      (⟨.ok, [BitVec.ofNat 8 p.val] ++ le 2 s.generation.toNat⟩,
        { s with claim := some { x with timer := timer s.timeBase 2000#16 } }) := by
  simp only [claimAction, claimReply, halfBytes_eq, hx, if_pos hp]
  rfl

theorem claimAction_other {s : State} {p : Port} {x : Claim} (hx : s.claim = some x) (hp : x.holder ≠ p) :
    claimAction p s = (⟨.claimHeld, [BitVec.ofNat 8 x.holder.val]⟩, s) := by
  simp only [claimAction, hx, if_neg hp]
  rfl

/-- Settles O35, by the three cases of R120: the claim is free, the requester's, or another port's. -/
theorem claimTakesOrRestartsOrIsRefused : Obligations.ClaimTakesOrRestartsOrIsRefused := by
  intro h s c hf hc
  refine ⟨fun hn => ?_, fun x hx => ⟨fun hp => ?_, fun hp => ?_⟩⟩
  · exact completes_in_open rfl hf hc (claimAction_free (s := s.hear h.port) h.port hn) rfl rfl rfl rfl
  · exact completes_in_open rfl hf hc (claimAction_holder (s := s.hear h.port) hx hp) rfl rfl rfl rfl
  · exact completes_in_open rfl hf hc (claimAction_other (s := s.hear h.port) hx hp) rfl rfl rfl rfl

/-! #### DROP_CLAIM (R124) -/

/-- Settles O38: the claim check passes the holder on to the freeing of the claim and refuses every other port. -/
theorem dropClaimFreesTheClaim : Obligations.DropClaimFreesTheClaim := by
  intro h s c hf hc
  refine ⟨fun x hx hp => ?_, fun hn => ?_⟩
  · exact completes_in_open rfl hf hc (whenHolder_holder (s := s.hear h.port) hx hp) rfl rfl rfl rfl
  · exact completes_in_open rfl hf hc (whenHolder_other (s := s.hear h.port) hn) rfl rfl rfl rfl

/-! #### Validation (R127) -/

/-- The failure the model finds in a rule is the reason R127 gives. -/
theorem ruleFailure_eq_invalidity (t : Table) (r : Rule) :
    (t.ruleFailure r).map RuleFailure.byte = invalidity t r := by
  unfold Table.ruleFailure invalidity
  by_cases hv : r.valid = false
  · simp [hv]
  by_cases hs : portCount r.source = 0
  · simp [hv, hs, (portCount_zero _).1 hs, RuleFailure.byte]
  rw [if_neg (by simpa using hv), if_neg hs, if_neg hv, if_neg (mt (portCount_zero _).2 hs)]
  unfold Table.namesDisabled
  cases r.cls with
  | queued l f => rfl
  | board b => simp [apply_ite, RuleFailure.byte]

theorem firstFailure_none {t : Table} (h : ∀ i : RuleIx, invalidity t t.rules[i] = none) : t.firstFailure = none := by
  refine List.findSome?_eq_none_iff.2 fun i _ => ?_
  have hi : t.ruleFailure t.rules[i] = none := by
    rw [← Option.map_eq_none_iff, ruleFailure_eq_invalidity, h i]
  rw [hi]
  rfl

/-! #### The event of a successful COMMIT (R95, R109, R128) -/

section Commit

variable (s : State) (p : Port) (new : Table)

/-- The pool gives back one reference for every withdrawn board that holds the slot (R95, R14). -/
theorem drop_withdrawnSlots_eq_poolAfter :
    s.pool.drop (s.withdrawnSlots new) =
      poolAfter s.pool fun i =>
        afterDrops s.pool.slots[i] ((List.finRange 32).countP fun b =>
          (s.table.boards[b].enabled && !new.boards[b].enabled) && decide (s.boards[b].held = some i)) :=
  after_eq_poolAfter fun i => by
    rw [dropAll_get, iterate_dropped_eq_afterDrops, State.withdrawnSlots, List.count_filterMap]
    congr 1
    refine List.countP_congr fun b _ => ?_
    unfold withdrawn
    cases s.table.boards[b].enabled && !new.boards[b].enabled <;> simp

/-- A commit ends a PENDING pull as R109 says. -/
theorem commitEnds_eq_endedByCommit (e : Pull) : s.commitEnds new e = endedByCommit s new e := by
  unfold State.commitEnds endedByCommit
  rcases new.boards[e.board] with ⟨enabled, supplier, timeout⟩
  cases enabled with
  | false => rfl
  | true =>
    cases supplier with
    | none => rfl
    | some q => by_cases hq : q = e.requester <;> cases ho : openAt s q <;> simp [hq, ho, isOpen_eq]

/-- What a commit makes of each entry of the pull list: a DONE entry stays, a PENDING one stays or ends. -/
theorem commitPull_eq (e : Pull) :
    s.commitPull new e =
      match e.state with
      | .waiting _ =>
        match endedByCommit s new e with
        | some o => { e with state := .done o }
        | none => e
      | .done _ => e := by
  unfold State.commitPull Pull.isWaiting
  rw [commitEnds_eq_endedByCommit]
  cases e.state with
  | done o => rfl
  | waiting x => cases endedByCommit s new e <;> rfl

theorem latchTableChanged_latched :
    ((s.latchTableChanged p).attention.map fun a => a.latched) =
      Vector.ofFn fun q : Port =>
        if openAt s q && decide (q ≠ p) then { s.attention[q].latched with tableChanged := true }
        else s.attention[q].latched := by
  ext i hi
  simp only [State.latchTableChanged, Vector.getElem_map, Vector.getElem_ofFn, isOpen_eq, apply_ite Attention.latched]

theorem latchTableChanged_mask :
    ((s.latchTableChanged p).attention.map fun a => a.mask) = s.attention.map fun a => a.mask := by
  ext i hi
  simp only [State.latchTableChanged, Vector.getElem_map, Vector.getElem_ofFn, apply_ite Attention.mask, ite_self]
  rfl

/-- The blocks after a successful commit, block by block. -/
theorem blocks_commitTable : blocks (s.commitTable p new) = committed s p new := by
  have hpulls : s.pulls.map (s.commitPull new) = (committed s p new).pulls :=
    List.map_congr_left fun e _ => commitPull_eq s new e
  exact Blocks.ext rfl rfl rfl rfl (drop_withdrawnSlots_eq_poolAfter s new) rfl rfl rfl rfl rfl rfl rfl hpulls
    (latchTableChanged_latched s p) (latchTableChanged_mask s p) rfl

end Commit

/-- Hearing the committer moves nothing a commit reads. -/
theorem committed_hear (s : State) (q p : Port) (new : Table) : committed (s.hear q) p new = committed s p new := by
  have hopen : openAt (s.hear q) = openAt s := funext fun r => by rw [← isOpen_eq, hear_isOpen, isOpen_eq]
  simp only [committed, endedByCommit, hopen]
  rfl

theorem commitShadow_valid {s : State} {p : Port} {x : Claim} (hv : x.shadow.firstFailure = none) :
    commitShadow p x s = (⟨.ok, le 2 (s.generation + 1#16).toNat⟩, s.commitTable p x.shadow) := by
  rw [← halfBytes_eq]
  simp only [commitShadow, hv]

/-- Settles O39: the holder's COMMIT of a shadow without a failing rule is the model's commit event. -/
theorem commitPutsTheShadowInForce : Obligations.CommitPutsTheShadowInForce := by
  intro h s c x hf hc hx hp hv
  have ha := (whenHolder_holder (s := s.hear h.port) hx hp).trans
    (commitShadow_valid (p := h.port) (firstFailure_none hv))
  exact completes_in_open rfl hf hc ha rfl rfl rfl ((blocks_commitTable _ _ _).trans (committed_hear s _ _ _))

/-! #### STATS (R133, R186) -/

theorem counters_eq (s : State) (p : Port) :
    s.counters p =
      [s.queues[p].overflow, s.queues[p].discard, s.queues[p].expiry, s.links[p].crcErrors, s.links[p].truncated,
        s.links[p].duplicates, s.undelivered, s.pool.poolEmpty].flatMap fun x => le 2 x.toNat := by
  simp [State.counters, halfBytes_eq]

theorem choiceOf_byte (b : Bool) : choiceOf (if b then 1#8 else 0#8) = some b := by cases b <;> rfl

theorem statsGate_passes {s : State} {p : Port} (hp : s.sessions[p].phase ≠ .fenced) (clearPort clearHub : Bool) :
    statsGate p (if clearPort then 1#8 else 0#8) (if clearHub then 1#8 else 0#8) s =
      statsAction p clearPort clearHub s := by
  unfold statsGate
  rw [choiceOf_byte, choiceOf_byte]
  split
  · exact absurd ‹_› hp
  · rfl

theorem holdsClaim_iff (s : State) (p : Port) :
    s.holdsClaim p = true ↔ ∃ x : Claim, s.claim = some x ∧ x.holder = p := by
  simp [State.holdsClaim]

/-- STATS's first choice: the port's six counters at 0 where it is set, the state as it was where it is not (R186). -/
def portChoice (s : State) (p : Port) (clearPort : Bool) : State := if clearPort then s.clearPortCounters p else s

section StatsAction

variable {s : State} {p : Port} (clearPort : Bool)

theorem statsAction_hubKept : statsAction p clearPort false s = (⟨.ok, s.counters p⟩, portChoice s p clearPort) := rfl

theorem statsAction_hubCleared (hp : s.holdsClaim p = true) :
    statsAction p clearPort true s = (⟨.ok, s.counters p⟩, (portChoice s p clearPort).clearHubCounters) := by
  simp only [statsAction, hp, portChoice, if_true]

theorem statsAction_denied (hp : ¬s.holdsClaim p = true) :
    statsAction p clearPort true s = (⟨.notHolder, s.counters p⟩, portChoice s p clearPort) := by
  simp only [statsAction, hp, portChoice, if_true]
  rfl

variable (s p)

theorem portChoice_sessions : (portChoice s p clearPort).sessions = s.sessions := by cases clearPort <;> rfl

theorem portChoice_links :
    (portChoice s p clearPort).links =
      s.links.set p
        (if clearPort then { s.links[p] with crcErrors := 0#16, truncated := 0#16, duplicates := 0#16 }
          else s.links[p]) := by
  cases clearPort with
  | false => simp [portChoice]
  | true => rfl

theorem blocks_portChoice :
    blocks (portChoice s p clearPort) =
      { blocks s with
        queues := s.queues.set p
          (if clearPort then { s.queues[p] with overflow := 0#16, discard := 0#16, expiry := 0#16 }
            else s.queues[p]) } := by
  cases clearPort with
  | false => simp [portChoice, blocks]
  | true => rfl

theorem blocks_clearHubCounters :
    blocks s.clearHubCounters =
      { blocks s with undelivered := 0#16, pool := { s.pool with poolEmpty := 0#16 } } := rfl

end StatsAction

/-- Hearing a request fences no session. -/
theorem hear_not_fenced {s : State} {p : Port} (hp : s.sessions[p].phase ≠ .fenced) :
    (s.hear p).sessions[p].phase ≠ .fenced := by
  rw [hear_phase]
  cases hs : s.sessions[p].phase with
  | fenced => exact absurd hs hp
  | closed => simp [Phase.mapConn]
  | opened c => simp [Phase.mapConn]
  | closing c => simp [Phase.mapConn]

/-- A fresh STATS outside FENCED: sessions, links and blocks from what its action answers, where the action leaves the
sessions alone and, of the links, clears what the first choice says. -/
theorem completes_stats {s u : State} {h : Head} {clearPort clearHub : Bool} {o : OutcomeCode}
    (hf : Fresh s h 0x53#8) (hp : s.sessions[h.port].phase ≠ .fenced)
    (ha : statsAction h.port clearPort clearHub (s.hear h.port) = (⟨o, (s.hear h.port).counters h.port⟩, u))
    (hl : u.links = (portChoice (s.hear h.port) h.port clearPort).links)
    (hs : u.sessions = (portChoice (s.hear h.port) h.port clearPort).sessions) :
    Completes (.stats h (if clearPort then 1#8 else 0#8) (if clearHub then 1#8 else 0#8)) s fun t =>
      InPhase s t h.port (heardPhase s h.port) ∧ Settled t ∧
      (let l := s.links[h.port]
        let r : Response :=
          { command := 0x53#8
            session := stateOf t.sessions[h.port].phase
            number := h.number
            outcome := o
            epoch := t.sessions[h.port].epoch
            content := s.counters h.port }
        let l' : Link := { l with held := r, lastExecuted := r, lastNumber := some h.number }
        t.links = s.links.set h.port
          (if clearPort then { l' with crcErrors := 0#16, truncated := 0#16, duplicates := 0#16 } else l')) ∧
      blocks t = blocks u := by
  have hgate := (statsGate_passes (hear_not_fenced hp) clearPort clearHub).trans ha
  refine completes_of_action rfl hf hgate ⟨?_, settle_settled _, ?_, by simp⟩
  · rw [portChoice_sessions] at hs
    exact hs.trans (hear_inPhase s h.port)
  · have hr : Responded u _ h 0x53#8 o _ _ := answer_responded rfl h 0x53#8 o ((s.hear h.port).counters h.port)
    rw [portChoice_links] at hl
    rw [Responded, hl] at hr
    refine hr.trans ?_
    cases clearPort <;> simp <;> rfl

/-- Settles O44, by STATS's second choice and who holds the claim: the hub counters stay, are cleared, or are denied. -/
theorem statsReportsThenClears : Obligations.StatsReportsThenClears := by
  intro h s clearPort clearHub hf hp
  dsimp only
  rw [← counters_eq]
  have hkept := blocks_portChoice (s.hear h.port) h.port clearPort
  cases clearHub with
  | false =>
    obtain ⟨t, ht, hphase, hset, hlinks, hb⟩ := completes_stats hf hp (statsAction_hubKept clearPort) rfl rfl
    exact ⟨t, ht, hphase, hset, ⟨.ok, by simp, by simp, hlinks⟩, s.undelivered, s.pool.poolEmpty, by simp, by simp,
      hb.trans hkept⟩
  | true =>
    by_cases hh : s.holdsClaim h.port = true
    · obtain ⟨x, hx, hxp⟩ := (holdsClaim_iff s h.port).1 hh
      obtain ⟨t, ht, hphase, hset, hlinks, hb⟩ :=
        completes_stats hf hp (statsAction_hubCleared (s := s.hear h.port) clearPort hh) rfl rfl
      refine ⟨t, ht, hphase, hset, ⟨.ok, ?_, by simp, hlinks⟩, 0#16, 0#16, by simp, ?_, ?_⟩
      · exact fun hd => absurd hxp (hd.2 x hx)
      · exact fun hm => absurd ⟨rfl, x, hx, hxp⟩ hm
      · rw [hb, blocks_clearHubCounters, hkept]
        cases clearPort <;> rfl
    · have hno := mt (holdsClaim_iff s h.port).2 hh
      obtain ⟨t, ht, hphase, hset, hlinks, hb⟩ :=
        completes_stats hf hp (statsAction_denied (s := s.hear h.port) clearPort hh) rfl rfl
      refine ⟨t, ht, hphase, hset, ⟨.notHolder, by simp, ?_, hlinks⟩, s.undelivered, s.pool.poolEmpty, ?_, by simp,
        hb.trans hkept⟩
      · exact fun hd => absurd ⟨rfl, fun x hx hxp => hno ⟨x, hx, hxp⟩⟩ hd
      · exact fun hm => absurd hm.2 hno

end Sys2Proof.Proofs

/-! ### Proofs: the end of a session -/

namespace Sys2Proof.Proofs

open Sys2Proof.Machine Sys2Proof.Statements Sys2Proof.Laws

/-! #### The teardown, block by block (R143, R144) -/

section Teardown

variable (s : State) (p : Port) (discardHand : Bool)

/-- The references a teardown drops are those of the entries the statements list. -/
theorem tornRefs_eq_slots_of_tornEntries (q : Queue) :
    q.tornRefs discardHand = (tornEntries q discardHand).map fun e => e.slot := by
  rw [Queue.tornRefs, tornEntries, handEntries_eq]
  cases discardHand <;> simp

theorem count_slots_eq_naming (es : List Entry) (i : SlotIx) : (es.map fun e => e.slot).count i = naming es i := by
  rw [List.count, List.countP_map]
  rfl

/-- The port's COMPOSING slots are free, and every other slot has lost the references of the port's entries (R17). -/
theorem teardown_pool_eq_poolAfter : (s.teardown p discardHand).pool = (tornBlocks s p discardHand).pool := by
  rw [State.teardown_pool]
  refine after_eq_poolAfter fun i => ?_
  rw [dropAll_get, freeComposing_get, iterate_dropped_eq_afterDrops, tornRefs_eq_slots_of_tornEntries,
    count_slots_eq_naming]
  cases s.pool.slots[i] with
  | free => rfl
  | live m => rfl
  | composing owner payload => by_cases ho : owner = p <;> simp [Slot.composedBy, afterDrops, ho]

theorem teardown_queues_eq : (s.teardown p discardHand).queues = (tornBlocks s p discardHand).queues := by
  rw [State.teardown_queues, handCount_eq, satAdd_eq_raised]
  cases discardHand <;> rfl

/-- A pull of another port: a PENDING one on a board the port supplies ends SUPPLIER_LOST (R108). -/
theorem loseSupplier_eq (e : Pull) :
    s.loseSupplier p e =
      match e.state with
      | .waiting _ =>
        if s.table.boards[e.board].supplier = some p then { e with state := .done .supplierLost } else e
      | .done _ => e := by
  unfold State.loseSupplier Pull.isWaiting
  cases e.state with
  | waiting x => simp [Pull.ended]
  | done o => rfl

theorem teardown_pulls_eq : (s.teardown p discardHand).pulls = (tornBlocks s p discardHand).pulls := by
  rw [State.teardown_pulls]
  exact List.map_congr_left fun e _ => loseSupplier_eq s p e

theorem teardown_claim_eq : (s.teardown p discardHand).claim = (tornBlocks s p discardHand).claim := by
  rw [State.teardown_claim, tornBlocks]
  cases s.claim with
  | none => rfl
  | some c => by_cases hp : c.holder = p <;> simp [Option.filter, hp]

theorem teardown_latched_eq :
    ((s.teardown p discardHand).attention.map fun a => a.latched) = (tornBlocks s p discardHand).latched := by
  rw [State.teardown_attention, Vector.map_set]
  rfl

theorem teardown_mask_eq :
    ((s.teardown p discardHand).attention.map fun a => a.mask) = s.attention.map fun a => a.mask := by
  rw [State.teardown_attention, Vector.map_set]
  simpa using Vector.set_getElem_self (xs := s.attention.map fun a => a.mask) (i := p.val) p.isLt

/-- The model's teardown takes back what the rows of R143 and R144 name, and nothing else. -/
theorem blocks_teardown : blocks (s.teardown p discardHand) = tornBlocks s p discardHand := by
  apply Blocks.ext
  case pool => exact teardown_pool_eq_poolAfter s p discardHand
  case claim => exact teardown_claim_eq s p discardHand
  case queues => exact teardown_queues_eq s p discardHand
  case pulls => exact teardown_pulls_eq s p discardHand
  case latched => exact teardown_latched_eq s p discardHand
  case mask => exact teardown_mask_eq s p discardHand
  case boards => exact State.teardown_boards s p discardHand
  all_goals simp [blocks, tornBlocks]

end Teardown

/-- A session state alone is part of no block. -/
theorem blocks_setPhase (s : State) (p : Port) (ph : Phase) : blocks (s.setPhase p ph) = blocks s := rfl

/-- The blocks after a request's teardown are those of the teardown from the state the request found. -/
theorem blocks_teardown_hear (s : State) (p : Port) (discardHand : Bool) (ph : Phase) :
    blocks (((s.hear p).teardown p discardHand).setPhase p ph) = tornBlocks s p discardHand := by
  rw [blocks_setPhase, blocks_teardown]
  rfl

/-- A request that tears the port's session down, answered OK: the port is in the phase given, the blocks are torn. -/
theorem completes_torn {i : Instr} {s : State} {h : Head} {code : Byte} {act : Action} {content : List Byte}
    {discardHand : Bool} {ph : Phase} (hx : exec i s = .next (s.request h code act)) (hf : Fresh s h code)
    (ha : act (s.hear h.port) =
      (⟨.ok, content⟩, ((s.hear h.port).teardown h.port discardHand).setPhase h.port ph))
    (hn : forgetsNumber code .ok = false) :
    Completes i s fun t =>
      Responded s t h code .ok content (some h.number) ∧ InPhase s t h.port ph ∧
        blocks t = tornBlocks s h.port discardHand ∧ Settled t := by
  refine completes_of_action hx hf ha ⟨?_, ?_, ?_, settle_settled _⟩
  · have hl : (((s.hear h.port).teardown h.port discardHand).setPhase h.port ph).links = s.links := by simp
    simpa [hn] using answer_responded hl h code .ok content
  · simp [InPhase]
  · rw [blocks_settle, blocks_answer, blocks_teardown_hear]

/-! #### The session check of a request taken in OPEN and CLOSING (R136) -/

theorem whenInSession_closed {s : State} {p : Port} {act act' : Conn → Action}
    (hc : s.sessions[p].phase = .closed) : whenInSession p act act' (s.hear p) = (⟨.notOpen, []⟩, s.hear p) := by
  simp only [whenInSession, hear_closed hc]
  rfl

theorem whenInSession_fenced {s : State} {p : Port} {act act' : Conn → Action}
    (hc : s.sessions[p].phase = .fenced) : whenInSession p act act' (s.hear p) = (⟨.fenced, []⟩, s.hear p) := by
  simp only [whenInSession, hear_fenced hc]
  rfl

/-! #### CLOSE (R145, R146) -/

/-- CLOSE's action in OPEN: the teardown with the hand kept, and the session state its hand decides. -/
theorem closeAction_opened {s : State} {p : Port} {c : Conn} (hc : s.sessions[p].phase = .opened c) :
    closeAction p (s.hear p) =
      (⟨.ok, [if handSize s.queues[p] = 0 then 0#8 else 2#8, BitVec.ofNat 8 (handSize s.queues[p])]⟩,
        ((s.hear p).teardown p false).setPhase p
          (if handSize s.queues[p] = 0 then .closed else .closing (restart s.timeBase c))) := by
  rw [closeAction, whenInSession_opened hc]
  simp only [closeOpened, State.hear_queues, handCount_eq]
  by_cases hn : handSize s.queues[p] = 0
  · simp only [if_pos hn]
    rfl
  · simp only [if_neg hn]
    rfl

/-- CLOSE's action in CLOSING only counts the hand. -/
theorem closeAction_closing {s : State} {p : Port} {c : Conn} (hc : s.sessions[p].phase = .closing c) :
    closeAction p (s.hear p) = (⟨.ok, [2#8, BitVec.ofNat 8 (handSize s.queues[p])]⟩, s.hear p) := by
  rw [closeAction, whenInSession_closing hc, State.hear_queues, handCount_eq]
  rfl

/-- Settles O13, by the session state CLOSE finds: the teardown in OPEN, a bare answer in CLOSING, a refusal else. -/
theorem closeTearsDownAndKeepsTheHand : Obligations.CloseTearsDownAndKeepsTheHand := by
  intro h s hf
  refine ⟨fun c hc => ?opened, fun c hc => ?closing, fun hc => ?closed, fun hc => ?fenced⟩
  case opened => exact completes_torn rfl hf (closeAction_opened hc) rfl
  case closing => exact completes_unchanged rfl hf (closeAction_closing hc) rfl
  case closed => exact completes_unchanged rfl hf (whenInSession_closed hc) rfl
  case fenced => exact completes_unchanged rfl hf (whenInSession_fenced hc) rfl

end Sys2Proof.Proofs

/-! ### Proofs: the port link -/

namespace Sys2Proof.Proofs

open Sys2Proof.Machine Sys2Proof.Statements Sys2Proof.Laws

/-! #### The verdicts that are no frame (R163, R164) -/

/-- The length check: a header that asks for more than 72 arguments, or for bytes that were not clocked. -/
theorem judge_truncated_of_header {code num len : Byte} {rest : List Byte}
    (h : 72 < len.toNat ∨ rest.length < 2 + len.toNat) : judge (code :: num :: len :: rest) = .truncated := by
  rw [judge, if_pos h]

/-- Fewer than five bytes: either no whole header, or a header without its two CRC bytes. -/
theorem judge_truncated_of_short {bytes : List Byte} (h : bytes.length < 5) : judge bytes = .truncated := by
  match bytes, h with
  | [], _ => rfl
  | [_], _ => rfl
  | [_, _], _ => rfl
  | _ :: _ :: _ :: rest, h =>
    simp only [List.length_cons] at h
    exact judge_truncated_of_header (.inr (by omega))

/-- A complete frame whose CRC field is not the CRC of its header and arguments, whatever bytes follow it. -/
theorem judge_badCrc {code num : Byte} {args crc : List Byte} (extra : List Byte) (ha : args.length ≤ 72)
    (hl : crc.length = 2) (hc : crc ≠ le 2 (crcOf (code :: num :: BitVec.ofNat 8 args.length :: args))) :
    judge (code :: num :: BitVec.ofNat 8 args.length :: (args ++ (crc ++ extra))) = .badCrc := by
  have hlen : (BitVec.ofNat 8 args.length).toNat = args.length := by simp; omega
  have hcomplete : ¬(72 < args.length ∨ (args ++ (crc ++ extra)).length < 2 + args.length) := by
    simp [hl]; omega
  simp only [judge, hlen]
  rw [if_neg hcomplete, List.drop_left, List.take_left, List.take_left' hl, leBytes_eq, crc16_toNat, if_neg hc]

theorem commandOf_of_truncated {p : Port} {bytes : List Byte} (h : judge bytes = .truncated) :
    commandOf p bytes = .linkTruncated p bytes := by
  rw [commandOf, h]

theorem commandOf_of_badCrc {p : Port} {bytes : List Byte} (h : judge bytes = .badCrc) :
    commandOf p bytes = .linkCrc p bytes := by
  rw [commandOf, h]

/-! #### The answer to a link error (R165) -/

/-- The response to a transaction that was no frame: its first two bytes echoed, 00h for one not clocked. -/
def linkErrorResponse (s : State) (p : Port) (bytes : List Byte) (o : OutcomeCode) : Response where
  command := bytes.headD 0#8
  session := stateOf s.sessions[p].phase
  number := (bytes.tail.headD 0#8).setWidth 4
  outcome := o
  epoch := s.sessions[p].epoch
  content := []

/-- The model forms that response, from the bytes by their places. -/
theorem response_eq_linkErrorResponse (s : State) (p : Port) (bytes : List Byte) (o : OutcomeCode) :
    s.response p (bytes[0]?.getD 0#8) ((bytes[1]?.getD 0#8).setWidth 4) (Reply.bare o) =
      linkErrorResponse s p bytes o := by
  have hfirst : bytes[0]?.getD 0#8 = bytes.headD 0#8 := by cases bytes <;> rfl
  have hsecond : bytes[1]?.getD 0#8 = bytes.tail.headD 0#8 := by
    rcases bytes with _ | ⟨_, _ | _⟩ <;> rfl
  rw [State.response, hfirst, hsecond, state_eq]
  rfl

/-- With RESET_N high a link error writes the port's link record and nothing else of the state. -/
theorem linkError_of_resetN {s : State} (hr : s.resetN = true) (p : Port) (bytes : List Byte) (o : OutcomeCode)
    (count : Link → Link) :
    s.linkError p bytes o count =
      { s with links := s.links.set p (count { s.links[p] with held := linkErrorResponse s p bytes o }) } := by
  rw [State.linkError, if_neg (by simp [hr]), ← response_eq_linkErrorResponse]
  rfl

theorem exec_linkTruncated (p : Port) (bytes : List Byte) (s : State) :
    exec (.linkTruncated p bytes) s =
      .next (s.linkError p bytes .linkTruncated fun l => { l with truncated := raised l.truncated 1 }) := by
  simp only [← satAdd_eq_raised]
  rfl

theorem exec_linkCrc (p : Port) (bytes : List Byte) (s : State) :
    exec (.linkCrc p bytes) s =
      .next (s.linkError p bytes .linkCrc fun l => { l with crcErrors := raised l.crcErrors 1 }) := by
  simp only [← satAdd_eq_raised]
  rfl

/-- Settles O5: the verdict on the bytes gives the command, and the command writes the port's link record alone. -/
theorem linkErrorsReplaceTheHeldResponse : Obligations.LinkErrorsReplaceTheHeldResponse := by
  refine ⟨fun p bytes h => ?truncated, fun p code num args crc extra ha hl hc => ?badCrc,
    fun p bytes s hr => ?execTruncated, fun p bytes s hr => ?execCrc⟩
  case truncated =>
    apply commandOf_of_truncated
    rcases h with hshort | ⟨code, num, len, rest, rfl, hlong | hmissing⟩
    · exact judge_truncated_of_short hshort
    · exact judge_truncated_of_header (.inl hlong)
    · refine judge_truncated_of_header (.inr ?_)
      simp only [List.length_cons] at hmissing
      omega
  case badCrc => exact commandOf_of_badCrc (judge_badCrc extra ha hl hc)
  case execTruncated => rw [exec_linkTruncated, linkError_of_resetN hr]; rfl
  case execCrc => rw [exec_linkCrc, linkError_of_resetN hr]; rfl

end Sys2Proof.Proofs

/-! ### Proofs: what every step keeps

`KeptByAll` asks of a property that every action keeps it. `Preserved` asks for less: one field for each effect the
actions have on the state, with what is known where the effect is taken, and by default an effect is taken to leave what
the property reads as it was. A proof about an invariant then names the effects that touch it and no other. -/

namespace Sys2Proof.Proofs

open Sys2Proof.Machine Sys2Proof.Safety Sys2Proof.Statements Sys2Proof.Laws

-- One proof after another: side by side they take more memory than a check has.
set_option Elab.async false

/-! #### The effects -/

/-- How the session of a port ends by a teardown: whether its hand is discarded, and its session state after it. -/
inductive Tears (s : State) (p : Port) : Bool → Phase → Prop
  | close (c : Conn) : s.sessions[p].phase = .opened c →
      Tears s p false (if s.queues[p].handCount = 0 then .closed else .closing c)
  | reset (c : Conn) : s.sessions[p].phase = .opened c → Tears s p true .closed
  | fence (c : Conn) : s.sessions[p].phase.conn? = some c → Tears s p true .fenced

/-- The state after a hand entry ended, with the port's discard and expiry counters and all attention records given:
RELEASE, a RETURN in CLOSING and a lease expiry that discards differ in nothing else (R70, R71, R74, R75). -/
def entryEnded (s : State) (p : Port) (k : Handle) (x : HandEntry) (discard expiry : Half) (a : PerPort Attention) :
    State :=
  { s with
    pool := s.pool.drop [x.entry.slot]
    queues := s.queues.set p { s.queues[p].freeHandle k with discard := discard, expiry := expiry }
    attention := a }

/-- `I` is kept by every effect a command has, where `P` is known too. -/
structure Preserved (P I : State → Prop) : Prop where
  queued : ∀ (s : State) (q : List Instr), I s → I { s with pending := q } := by exact fun _ _ h => h
  heard : ∀ (s : State) (p : Port), P s → I s → I (s.hear p) := by exact fun _ _ _ h => h
  linked : ∀ (s : State) (p : Port) (l : Link), I s → I (s.setLink p l) := by exact fun _ _ _ h => h
  settled : ∀ s : State, I s → I s.settle := by exact fun _ h => h
  opened : ∀ (s : State) (p : Port) (a : OpenArgs) (c : Conn), P s → I s → s.sessions[p].phase = .closed → Machine.connOf a s.timeBase = some c →
    I (s.opened p c) := by exact fun _ _ _ _ _ h _ _ => h
  closed : ∀ (s : State) (p : Port), P s → I s → s.sessions[p].phase = .closed ∨ s.sessions[p].phase = .fenced →
    I (s.setPhase p .closed) := by exact fun _ _ _ h _ => h
  torn : ∀ (s : State) (p : Port) (d : Bool) (ph : Phase), P s → I s → Tears s p d ph → I ((s.teardown p d).setPhase p ph) := by
    exact fun _ _ _ _ _ h _ => h
  handDiscarded : ∀ (s : State) (p : Port) (c : Conn), P s → I s → s.sessions[p].phase = .closing c →
    I ((s.discardHand p).setPhase p .closed) := by exact fun _ _ _ _ h _ => h
  reserved : ∀ (s : State) (p : Port) (c : Conn) (i : SlotIx) (rest : List SlotIx), P s → I s →
    s.sessions[p].phase = .opened c → s.pool.composingCount p ≠ c.composing → s.pool.freeList = i :: rest →
    I (s.setPool { s.pool with slots := s.pool.slots.set i (.composing p Payload.zero), freeList := rest }) := by
    exact fun _ _ _ _ _ _ h _ _ _ => h
  written : ∀ (s : State) (p : Port) (slot : SlotIx) (payload payload' : Payload), P s → I s → s.pool.slots[slot] = .composing p payload →
    I (s.setPool { s.pool with slots := s.pool.slots.set slot (.composing p payload') }) := by
    exact fun _ _ _ _ _ _ h _ => h
  abandoned : ∀ (s : State) (p : Port) (slot : SlotIx), P s → I s → s.pool.slots[slot].composedBy p = true →
    I (s.setPool (s.pool.after (s.pool.slots.set slot .free))) := by exact fun _ _ _ _ h _ => h
  poolCounted : ∀ (s : State) (n m : Half), I s → I { s with undelivered := n, pool := { s.pool with poolEmpty := m } } := by
    exact fun _ _ _ h => h
  acceptedQueued : ∀ (s : State) (x : Posting) (c : Conn) (payload : Payload) (lane : Lane) (policy : FullPolicy), P s → I s →
    s.sessions[x.author].phase = .opened c → s.pool.slots[x.slot] = .composing x.author payload →
    s.sequence = .next x.sequence →
    ¬(policy = .refuse ∧ portCount (s.fullPorts (s.filterOpen (x.rule.destinations x.author))) ≠ 0) →
    I (s.acceptQueued x payload
      (s.deliveries (s.filterOpen (x.rule.destinations x.author)) policy
        { slot := x.slot, sequence := x.sequence, lane := lane, redelivery := 0 })) := by
    exact fun _ _ _ _ _ _ _ h _ _ _ _ => h
  acceptedBoard : ∀ (s : State) (x : Posting) (c : Conn) (payload : Payload) (b : BoardIx), P s → I s →
    s.sessions[x.author].phase = .opened c →
    s.pool.slots[x.slot] = .composing x.author payload → s.sequence = .next x.sequence →
    s.table.govern x.tag x.author = some x.rule → x.rule.cls = .board b →
    I (s.acceptBoard x payload b (s.filterOpen (x.rule.destinations x.author))) := by
    exact fun _ _ _ _ _ _ h _ _ _ _ _ => h
  taken : ∀ (s : State) (p : Port) (c : Conn) (k : Handle) (e : Entry) (lease : Timer), P s → I s →
    s.sessions[p].phase = .opened c → s.queues[p].hand[k] = none →
    s.queues[p].nextEntry = some e → I (s.setQueue p (s.queues[p].takeInto k e lease)) := by
    exact fun _ _ _ _ _ _ _ h _ _ _ => h
  entryEnds : ∀ (s : State) (p : Port) (c : Conn) (k : Handle) (x : HandEntry) (d n : Half) (a : PerPort Attention),
    P s → I s → s.sessions[p].phase.conn? = some c → s.queues[p].hand[k] = some x →
    a = s.attention ∨ a = (s.latchDiscarded p).attention → I ((entryEnded s p k x d n a).drained p) := by
    exact fun _ _ _ _ _ _ _ _ _ h _ _ _ => h
  returned : ∀ (s : State) (p : Port) (c : Conn) (k : Handle) (x : HandEntry) (n : Half) (r : Nat), P s → I s →
    s.sessions[p].phase = .opened c → s.queues[p].hand[k] = some x →
    r = x.entry.redelivery ∨ r < c.redelivery →
    I (s.setQueue p
      (({ s.queues[p] with expiry := n }.freeHandle k).putBack { x.entry with redelivery := r })) := by
    exact fun _ _ _ _ _ _ _ _ h _ _ _ => h
  renewed : ∀ (s : State) (p : Port) (c : Conn) (k : Handle) (x : HandEntry) (lease : Timer), P s → I s →
    s.sessions[p].phase = .opened c → s.queues[p].hand[k] = some x →
    I (s.setQueue p { s.queues[p] with hand := s.queues[p].hand.set k (some { x with lease := lease }) }) := by
    exact fun _ _ _ _ _ _ _ h _ _ => h
  queueCounted : ∀ (s : State) (p : Port) (o d n : Half), I s →
    I (s.setQueue p { s.queues[p] with overflow := o, discard := d, expiry := n }) := by exact fun _ _ _ _ _ h => h
  boardRead : ∀ (s : State) (p : Port) (b : BoardIx), P s → I s → I { s with boards := s.boards.set b (s.boards[b].readBy p) } := by
    exact fun _ _ _ _ h => h
  pulled : ∀ (s : State) (p : Port) (c : Conn) (b : BoardIx) (q : Port) (w : Timer), P s → I s →
    s.sessions[p].phase = .opened c → s.table.boards[b].enabled = true →
    s.table.boards[b].supplier = some q → q ≠ p → s.isOpen q = true → s.hasWaiting p b = false →
    s.hasDone p b = false → s.pullCount p < 4 → s.pulls.length < 12 →
    I { s with pulls := s.pulls ++ [{ requester := p, board := b, state := .waiting w }] } := by
    exact fun _ _ _ _ _ _ _ h _ _ _ _ _ _ _ _ _ => h
  pullRemoved : ∀ (s : State) (f : Pull → Bool), P s → I s → I { s with pulls := s.pulls.filter f } := by exact fun _ _ _ h => h
  pullExpired : ∀ (s : State) (p : Port) (b : BoardIx), P s → I s → I { s with pulls := s.pulls.map (expirePull p b) } := by
    exact fun _ _ _ _ h => h
  claimed : ∀ (s : State) (x : Claim), P s → I s → s.isOpen x.holder = true ∨ (∃ y, s.claim = some y ∧ y.holder = x.holder) →
    I { s with claim := some x } := by exact fun _ _ _ h _ => h
  unclaimed : ∀ s : State, P s → I s → I { s with claim := none } := by exact fun _ _ h => h
  lapsed : ∀ (s : State) (x : Claim), P s → I s → s.claim = some x → I (s.lapseClaim x) := by exact fun _ _ _ h _ => h
  commits : ∀ (s : State) (p : Port) (x : Claim), P s → I s → s.claim = some x → x.shadow.firstFailure = none →
    I (s.commitTable p x.shadow) := by exact fun _ _ _ _ h _ _ => h
  acknowledged : ∀ (s : State) (p : Port) (c : Conn) (r : Half), P s → I s → s.sessions[p].phase.conn? = some c →
    I (s.setLatched p (s.attention[p].latched.acknowledge r)) := by exact fun _ _ _ _ _ h _ => h
  masked : ∀ (s : State) (p : Port) (m : Half), P s → I s → reasonsInRange m = true →
    I (s.setAttention p { s.attention[p] with mask := maskOf m }) := by exact fun _ _ _ _ h _ => h
  reset : ∀ s : State, I s.pinReset
  pulsed : ∀ (s : State) (n : Nat), I s → I { s with pulses := n } := by exact fun _ _ h => h
  heldLow : ∀ s : State, I s →
    I { s with
      resetN := false
      timeBase := 0#32
      tickPhase := 0
      attention := s.attention.map fun a => { a with line := false } } := by exact fun _ h => h
  clocked : ∀ (s : State) (now : Stamp) (phase : Fin 1000), s.resetN = true → I s →
    I { s with timeBase := now, tickPhase := phase } := by
    exact fun _ _ _ _ h => h
  examined : ∀ s : State, I s → I s.examineTimers := by exact fun _ h => h

/-! #### Each action is one of the effects -/

theorem openAction_next {I : State → Prop} {p : Port} {a : OpenArgs} {s : State} (hs : I s)
    (h : ∀ c, s.sessions[p].phase = .closed → Machine.connOf a s.timeBase = some c → I (s.opened p c)) :
    I (openAction p a s).2 := by
  unfold openAction
  split
  · exact withArgument_next hs fun c hc => h c ‹_› hc
  · exact hs
  · exact hs
  · exact hs

theorem unfenceAction_next {I : State → Prop} {p : Port} {s : State} (hs : I s)
    (h : s.sessions[p].phase = .fenced → I (s.setPhase p .closed)) : I (unfenceAction p s).2 := by
  unfold unfenceAction
  split
  · exact h ‹_›
  · exact hs
  · exact hs
  · exact hs

theorem reserveAction_next {I : State → Prop} {p : Port} {c : Conn} {s : State} (hs : I s)
    (hempty : I (s.setPool { s.pool with poolEmpty := satAdd s.pool.poolEmpty 1 }))
    (h : ∀ i rest, s.pool.composingCount p ≠ c.composing → s.pool.freeList = i :: rest →
      I (s.setPool { s.pool with slots := s.pool.slots.set i (.composing p Payload.zero), freeList := rest })) :
    I (reserveAction p c s).2 := by
  unfold reserveAction
  split
  · exact hs
  · split
    · exact hempty
    · exact h _ _ ‹_› ‹_›

theorem writeAction_next {I : State → Prop} {p : Port} {slot : SlotIx} {offset : Nat} {data : List Byte} {s : State}
    (hs : I s)
    (h : ∀ payload payload', s.pool.slots[slot] = .composing p payload →
      I (s.setPool { s.pool with slots := s.pool.slots.set slot (.composing p payload') })) :
    I (writeAction p slot offset data s).2 := by
  unfold writeAction
  split
  · split
    · rename_i owner payload hslot ho
      subst ho
      exact h payload _ hslot
    · exact hs
  · exact hs
  · exact hs

theorem takeAction_next {I : State → Prop} {p : Port} {c : Conn} {s : State} (hs : I s)
    (h : ∀ k e lease, s.queues[p].hand[k] = none → s.queues[p].nextEntry = some e →
      I (s.setQueue p (s.queues[p].takeInto k e lease))) :
    I (takeAction p c s).2 := by
  simp only [takeAction]
  split
  · exact hs
  · rename_i k hk
    split
    · exact hs
    · exact h k _ _ (by simpa using List.find?_some hk) ‹_›

theorem readBoardAction_next {I : State → Prop} {p : Port} {b : BoardIx} {s : State} (hs : I s)
    (h : I { s with boards := s.boards.set b (s.boards[b].readBy p) }) : I (readBoardAction p b s).2 := by
  simp only [readBoardAction]
  split
  · split
    · exact hs
    · exact h
  · exact hs

theorem pullFrom_next {I : State → Prop} {p q : Port} {b : BoardIx} {timeout : Half} {s : State} (hs : I s)
    (h : ∀ w, s.hasWaiting p b = false → s.hasDone p b = false → s.pullCount p < 4 → s.pulls.length < 12 →
      I { s with pulls := s.pulls ++ [{ requester := p, board := b, state := .waiting w }] }) :
    I (pullFrom p b q timeout s).2 := by
  unfold pullFrom
  split
  · exact hs
  · rename_i hw
    split
    · exact hs
    · rename_i hd
      split
      · exact hs
      · rename_i hc
        split
        · exact hs
        · rename_i hl
          simp only [Config.pullsPerPort, Config.pullListSize, not_le] at hc hl
          exact h _ (by simpa using hw) (by simpa using hd) hc hl

theorem pullAction_next {I : State → Prop} {p : Port} {b : BoardIx} {s : State} (hs : I s)
    (h : ∀ q w, s.table.boards[b].enabled = true → s.table.boards[b].supplier = some q → q ≠ p →
      s.isOpen q = true → s.hasWaiting p b = false → s.hasDone p b = false → s.pullCount p < 4 →
      s.pulls.length < 12 →
      I { s with pulls := s.pulls ++ [{ requester := p, board := b, state := .waiting w }] }) :
    I (pullAction p b s).2 := by
  simp only [pullAction]
  split
  · rename_i he
    split
    · exact hs
    · rename_i q hq
      split
      · exact hs
      · rename_i hp
        split
        · rename_i ho
          exact pullFrom_next hs fun w => h q w he hq hp ho
        · exact hs
  · exact hs

theorem claimAction_next {I : State → Prop} {p : Port} {s : State} (hs : I s)
    (h : ∀ x : Claim, x.holder = p → I { s with claim := some x }) : I (claimAction p s).2 := by
  simp only [claimAction]
  split
  · exact h _ rfl
  · split
    · exact h _ ‹_›
    · exact hs

/-! #### A hand entry that ends, and one that goes back -/

theorem entryEnded_of_countDiscards (s : State) (p : Port) (k : Handle) (x : HandEntry) :
    (s.endHandEntry p k x.entry).countDiscards p 1 =
      entryEnded s p k x (satAdd s.queues[p].discard 1) s.queues[p].expiry s.attention := by
  simp [State.countDiscards, State.setQueue, entryEnded, State.endHandEntry, State.dropRefs, State.setPool,
    Queue.freeHandle]

theorem entryEnded_of_discardLapsed (s : State) (p : Port) (k : Handle) (x : HandEntry) (r : Nat) :
    (s.countExpiry p).discardLapsed p k { x.entry with redelivery := r } =
      entryEnded s p k x (satAdd s.queues[p].discard 1) (satAdd s.queues[p].expiry 1)
        (s.latchDiscarded p).attention := by
  simp [State.discardLapsed, State.countDiscards, State.setQueue, entryEnded, State.endHandEntry, State.dropRefs,
    State.setPool, Queue.freeHandle, State.countExpiry, State.latchDiscarded, State.setLatched, State.setAttention]

/-- In OPEN draining does nothing. -/
theorem drained_of_opened {s : State} {p : Port} {c : Conn} (h : s.sessions[p].phase = .opened c) :
    s.drained p = s := by
  unfold State.drained
  rw [h]

/-- A lease expiry taken: the entry goes back to its lane, or it ends and the hand drains (R74, R75). -/
theorem lapse_next {I : State → Prop} {s : State} {p : Port} {k : Handle} {x : HandEntry} (hs : I s)
    (hback : ∀ c n r, s.sessions[p].phase = .opened c → r < c.redelivery →
      I (s.setQueue p
        (({ s.queues[p] with expiry := n }.freeHandle k).putBack { x.entry with redelivery := r })))
    (hend : ∀ c d n, s.sessions[p].phase.conn? = some c →
      I ((entryEnded s p k x d n (s.latchDiscarded p).attention).drained p)) :
    I (s.lapse p k x.entry) := by
  unfold State.lapse
  split
  · rename_i c hc
    simp only [State.lapseOpen]
    split
    · rename_i hr
      have hq : (s.countExpiry p).setQueue p
          (((s.countExpiry p).queues[p].freeHandle k).putBack
            { x.entry with redelivery := x.entry.redelivery + 1 }) =
          s.setQueue p (({ s.queues[p] with expiry := satAdd s.queues[p].expiry 1 }.freeHandle k).putBack
            { x.entry with redelivery := x.entry.redelivery + 1 }) := by
        simp [State.countExpiry, State.setQueue]
      rw [hq]
      exact hback c _ _ hc hr
    · rw [entryEnded_of_discardLapsed]
      have hd := hend c (satAdd s.queues[p].discard 1) (satAdd s.queues[p].expiry 1) (KeptByAll.conn (.inl hc))
      rwa [drained_of_opened (by exact hc)] at hd
  · rename_i c hc
    have he := entryEnded_of_discardLapsed s p k x x.entry.redelivery
    rw [show (s.countExpiry p).discardLapsed p k x.entry = _ from he]
    exact hend c _ _ (KeptByAll.conn (.inr hc))
  · exact hs
  · exact hs

/-! #### From the effects to every step -/

theorem Preserved.resetPort {P I : State → Prop} (E : Preserved P I) {p : Port} {s : State} (hP : P s) (hI : I s) :
    I (resetPortAction p s).2 := by
  simp only [resetPortAction, State.resetShare]
  split
  · exact E.torn _ _ _ _ hP hI (.reset _ ‹_›)
  · exact E.handDiscarded _ _ _ hP hI ‹_›
  · exact E.closed _ _ hP hI (.inr ‹_›)
  · exact E.closed _ _ hP hI (.inl ‹_›)

theorem Preserved.lapse {P I : State → Prop} (E : Preserved P I) {p : Port} {k : Handle} {x : HandEntry} {s : State}
    (hP : P s) (hI : I s) (hx : s.queues[p].hand[k] = some x) : I (s.lapse p k x.entry) :=
  lapse_next hI (fun _ n _ hc hr => E.returned _ _ _ _ _ n _ hP hI hc hx (.inr hr))
    fun _ d n hc => E.entryEnds _ _ _ _ _ d n _ hP hI hc hx (.inr rfl)

/-- What every effect keeps, every command keeps, together with what it was kept under. -/
theorem Preserved.keptByAll {P I : State → Prop} (K : KeptByAll P) (E : Preserved P I) :
    KeptByAll fun s => P s ∧ I s where
  hear s p := fun ⟨hP, hI⟩ => ⟨K.hear s p hP, E.heard s p hP hI⟩
  link s p l := fun ⟨hP, hI⟩ => ⟨K.link s p l hP, E.linked s p l hI⟩
  settle s := fun ⟨hP, hI⟩ => ⟨K.settle s hP, E.settled s hI⟩
  openSession p a s := fun ⟨hP, hI⟩ =>
    ⟨K.openSession p a s hP, openAction_next hI fun c hp hc => E.opened s p a c hP hI hp hc⟩
  close p c s := fun ⟨hP, hI⟩ hp => ⟨K.close p c s hP hp, E.torn _ _ _ _ hP hI (.close c hp)⟩
  unfence p s := fun ⟨hP, hI⟩ =>
    ⟨K.unfence p s hP, unfenceAction_next hI fun hp => E.closed s p hP hI (.inr hp)⟩
  resetPort p s := fun ⟨hP, hI⟩ => ⟨K.resetPort p s hP, E.resetPort hP hI⟩
  reserve p c s := fun ⟨hP, hI⟩ hp =>
    ⟨K.reserve p c s hP hp,
      reserveAction_next hI (E.poolCounted s s.undelivered _ hI) fun i rest => E.reserved s p c i rest hP hI hp⟩
  write p c slot offset data s := fun ⟨hP, hI⟩ hp =>
    ⟨K.write p c slot offset data s hP hp, writeAction_next hI fun a b => E.written s p slot a b hP hI⟩
  abandon p c slot s := fun ⟨hP, hI⟩ hp => by
    refine ⟨K.abandon p c slot s hP hp, ?_⟩
    unfold abandonAction
    split
    · exact E.abandoned s p slot hP hI ‹_›
    · exact hI
  acceptQueued x c payload lane policy s := fun ⟨hP, hI⟩ hp hs hn hg hc hf =>
    ⟨K.acceptQueued x c payload lane policy s hP hp hs hn hg hc hf,
      E.acceptedQueued s x c payload lane policy hP hI hp hs hn hf⟩
  acceptBoard x c payload b s := fun ⟨hP, hI⟩ hp hs hn hg hc =>
    ⟨K.acceptBoard x c payload b s hP hp hs hn hg hc, E.acceptedBoard s x c payload b hP hI hp hs hn hg hc⟩
  take p c s := fun ⟨hP, hI⟩ hp =>
    ⟨K.take p c s hP hp, takeAction_next hI fun k e lease => E.taken s p c k e lease hP hI hp⟩
  release p c k x s := fun ⟨hP, hI⟩ hp hx =>
    ⟨K.release p c k x s hP hp hx, E.entryEnds s p c k x _ _ _ hP hI hp hx (.inl rfl)⟩
  returnToLane p c k x s := fun ⟨hP, hI⟩ hp hx =>
    ⟨K.returnToLane p c k x s hP hp hx, E.returned s p c k x s.queues[p].expiry _ hP hI hp hx (.inl rfl)⟩
  returnDiscards p c k x s := fun ⟨hP, hI⟩ hp hx => by
    refine ⟨K.returnDiscards p c k x s hP hp hx, ?_⟩
    simp only [returnDiscards, entryEnded_of_countDiscards]
    exact E.entryEnds s p c k x _ _ _ hP hI (KeptByAll.conn (.inr hp)) hx (.inl rfl)
  renew p c k x s := fun ⟨hP, hI⟩ hp hx => ⟨K.renew p c k x s hP hp hx, E.renewed s p c k x _ hP hI hp hx⟩
  readBoard p c b s := fun ⟨hP, hI⟩ hp =>
    ⟨K.readBoard p c b s hP hp, readBoardAction_next hI (E.boardRead s p b hP hI)⟩
  pull p c b s := fun ⟨hP, hI⟩ hp =>
    ⟨K.pull p c b s hP hp, pullAction_next hI fun q w => E.pulled s p c b q w hP hI hp⟩
  cancelPull p b s := fun ⟨hP, hI⟩ => by
    refine ⟨K.cancelPull p b s hP, ?_⟩
    unfold cancelPullAction
    split
    · exact E.pullRemoved s _ hP hI
    · exact hI
  collect p b s := fun ⟨hP, hI⟩ => by
    refine ⟨K.collect p b s hP, ?_⟩
    unfold collectAction
    split
    · exact hI
    · exact E.pullRemoved s _ hP hI
  claim p c s := fun ⟨hP, hI⟩ hp =>
    ⟨K.claim p c s hP hp, claimAction_next hI fun x hx =>
      E.claimed s x hP hI (.inl (by rw [hx]; exact isOpen_of_opened hp))⟩
  edit f x s := fun ⟨hP, hI⟩ hx => ⟨K.edit f x s hP hx, E.claimed s _ hP hI (.inr ⟨x, hx, rfl⟩)⟩
  commit p x s := fun ⟨hP, hI⟩ hx hf => ⟨K.commit p x s hP hx hf, E.commits s p x hP hI hx hf⟩
  dropClaim s := fun ⟨hP, hI⟩ => ⟨K.dropClaim s hP, E.unclaimed s hP hI⟩
  acknowledge p c r s := fun ⟨hP, hI⟩ hp => ⟨K.acknowledge p c r s hP hp, E.acknowledged s p c r hP hI hp⟩
  setMask p c m s := fun ⟨hP, hI⟩ hm hp => ⟨K.setMask p c m s hP hm hp, E.masked s p m hP hI hm⟩
  clearPort p s := fun ⟨hP, hI⟩ =>
    ⟨K.clearPort p s hP, E.linked _ _ _ (E.queueCounted s p _ _ _ hI)⟩
  clearHub s := fun ⟨hP, hI⟩ => ⟨K.clearHub s hP, E.poolCounted s _ _ hI⟩
  pinReset s := fun ⟨hP, _⟩ => ⟨K.pinReset s hP, E.reset s⟩
  pulses s := fun ⟨hP, hI⟩ => ⟨K.pulses s hP, E.pulsed s _ hI⟩
  assertReset s t := fun ⟨hP, hI⟩ ht => ⟨K.assertReset s t hP ht, by cases ht; exact E.heldLow s hI⟩
  advance s := fun ⟨hP, hI⟩ hr => by
    refine ⟨K.advance s hP hr, ?_⟩
    have hc := E.clocked s (s.timeBase + 1#32) (s.tickPhase + 1) hr hI
    simp only [State.advance]
    split
    · exact E.examined _ hc
    · exact hc
  lapse p k x s := fun ⟨hP, hI⟩ hx => ⟨K.lapse p k x s hP hx, E.lapse hP hI hx⟩
  expirePull p b s := fun ⟨hP, hI⟩ => ⟨K.expirePull p b s hP, E.pullExpired s p b hP hI⟩
  lapseClaim x s := fun ⟨hP, hI⟩ hx => ⟨K.lapseClaim x s hP hx, E.lapsed s x hP hI hx⟩
  fence p c s := fun ⟨hP, hI⟩ hp => ⟨K.fence p c s hP hp, E.torn _ _ _ _ hP hI (.fence c hp)⟩

theorem keptByAll_true : KeptByAll fun _ => True := by
  constructor <;> simp [Keeps]

/-- A property that every effect keeps from it alone. -/
theorem Preserved.alone {I : State → Prop} (E : Preserved (fun _ => True) I) : KeptByAll I := by
  simpa only [true_and] using E.keptByAll keptByAll_true

theorem Preserved.step {I : State → Prop} (E : Preserved (fun _ => True) I) {s t : State} (hI : I s)
    (h : Machine.step s = .next t) : I t :=
  E.alone.step E.queued s t hI h

/-- A property kept under another one that every step keeps too. -/
theorem Preserved.stepUnder {P I : State → Prop} (EP : Preserved (fun _ => True) P) (E : Preserved P I) {s t : State}
    (hP : P s) (hI : I s) (h : Machine.step s = .next t) : I t :=
  ((E.keptByAll EP.alone).step (fun s q hs => ⟨EP.queued s q hs.1, E.queued s q hs.2⟩) s t ⟨hP, hI⟩ h).2

end Sys2Proof.Proofs

/-! ### Proofs: the free list -/

namespace Sys2Proof.Proofs

open Sys2Proof.Machine Sys2Proof.Safety Sys2Proof.Statements Sys2Proof.Laws

-- One proof after another: side by side they take more memory than a check has.
set_option Elab.async false

/-- R2 of a pool: its free list holds each FREE slot exactly once and no other slot. -/
def poolExact (pl : Pool) : Prop :=
  pl.freeList.Nodup ∧ ∀ i : SlotIx, i ∈ pl.freeList ↔ pl.slots[i].isFree = true

theorem freeListExact_iff (s : State) : freeListExact s ↔ poolExact s.pool := Iff.rfl

/-- An event that takes no FREE slot keeps the free list exact (R4). -/
theorem poolExact.after {pl : Pool} (h : poolExact pl) {slots : Vector Slot 256}
    (hf : ∀ i : SlotIx, pl.slots[i].isFree = true → slots[i].isFree = true) : poolExact (pl.after slots) :=
  after_exact h.1 h.2 hf

theorem dropAll_isFree {slots : Vector Slot 256} (refs : List SlotIx) {i : SlotIx} (h : slots[i].isFree = true) :
    (dropAll slots refs)[i].isFree = true := by
  rw [dropAll_get]
  exact iterate_dropped_isFree _ h

theorem poolExact.drop {pl : Pool} (h : poolExact pl) (refs : List SlotIx) : poolExact (pl.drop refs) :=
  h.after fun _ => dropAll_isFree refs

theorem freeComposing_isFree (p : Port) {slots : Vector Slot 256} {i : SlotIx} (h : slots[i].isFree = true) :
    (freeComposing p slots)[i].isFree = true := by
  rw [freeComposing_get]
  split
  · rfl
  · exact h

/-- A slot that is COMPOSING is not FREE, so writing to it takes no FREE slot. -/
theorem set_isFree_of_composing {slots : Vector Slot 256} {slot i : SlotIx} {p : Port} {sl : Slot}
    (hs : slots[slot].composedBy p = true) (h : slots[i].isFree = true) : (slots.set slot sl)[i].isFree = true := by
  rw [set_get]
  split
  · rename_i hi
    subst hi
    rw [(isFree_iff _).1 h] at hs
    cases hs
  · exact h

theorem composedBy_of_composing {sl : Slot} {p : Port} {payload : Payload} (h : sl = .composing p payload) :
    sl.composedBy p = true := composedBy_iff.2 ⟨payload, h⟩

/-- RESERVE takes the head of the free list, and the slot is FREE no longer (R5). -/
theorem poolExact.reserve {pl : Pool} (h : poolExact pl) {i : SlotIx} {rest : List SlotIx}
    (hl : pl.freeList = i :: rest) (p : Port) (payload : Payload) :
    poolExact { pl with slots := pl.slots.set i (.composing p payload), freeList := rest } := by
  obtain ⟨hn, hm⟩ := h
  rw [hl, List.nodup_cons] at hn
  refine ⟨hn.2, fun j => ?_⟩
  have hj := hm j
  rw [hl, List.mem_cons] at hj
  simp only [set_get]
  split
  · rename_i hji
    subst hji
    exact iff_of_false hn.1 (by simp [Slot.isFree])
  · rename_i hji
    rwa [or_iff_right hji] at hj

/-- WRITE leaves a COMPOSING slot COMPOSING. -/
theorem poolExact.write {pl : Pool} (h : poolExact pl) {slot : SlotIx} {p : Port} {payload : Payload}
    (hs : pl.slots[slot] = .composing p payload) (payload' : Payload) :
    poolExact { pl with slots := pl.slots.set slot (.composing p payload') } := by
  refine ⟨h.1, fun j => (h.2 j).trans ?_⟩
  simp only [set_get]
  split
  · rename_i hj
    rw [hj, hs]
    rfl
  · rfl

theorem poolExact_initial : poolExact Pool.initial := by
  unfold poolExact Pool.initial
  simp [List.nodup_finRange, Slot.isFree]

theorem reset_freeListExact (s : State) : freeListExact s.pinReset := poolExact_initial

/-- Each effect on the pool is a RESERVE, a WRITE, or frees slots to the tail of the free list. -/
theorem freeListExact_preserved : Preserved (fun _ => True) freeListExact where
  torn s p d ph _ h _ := by
    rw [freeListExact_iff, State.setPhase_pool, State.teardown_pool]
    exact poolExact.after h fun i hi => dropAll_isFree _ (freeComposing_isFree p hi)
  handDiscarded s p c _ h _ := by
    rw [freeListExact_iff, State.setPhase_pool, State.discardHand_pool]
    exact poolExact.drop h _
  reserved s p c i rest _ h _ _ hl := poolExact.reserve h hl p _
  written s p slot payload payload' _ h hs := poolExact.write h hs payload'
  abandoned s p slot _ h hs := poolExact.after h fun i => set_isFree_of_composing hs
  acceptedQueued s x c payload lane policy _ h _ hs _ _ :=
    poolExact.after h fun i hi => dropAll_isFree _ (set_isFree_of_composing (composedBy_of_composing hs) hi)
  acceptedBoard s x c payload b _ h _ hs _ _ _ :=
    poolExact.after h fun i hi => dropAll_isFree _ (set_isFree_of_composing (composedBy_of_composing hs) hi)
  entryEnds s p c k x d n a _ h _ _ _ := by
    rw [freeListExact_iff, State.drained_pool]
    exact poolExact.drop h _
  commits s p x _ h _ _ := poolExact.drop h _
  reset := reset_freeListExact

/-- Settles O49: R2 is kept effect by effect. -/
theorem freeListHoldsExactlyTheFreeSlots : Obligations.FreeListHoldsExactlyTheFreeSlots :=
  fun _ _ hs ht => freeListExact_preserved.step hs ht

end Sys2Proof.Proofs

/-! ### Proofs: sequences and the active table -/

namespace Sys2Proof.Proofs

open Sys2Proof.Machine Sys2Proof.Safety Sys2Proof.Statements Sys2Proof.Laws

-- One proof after another: side by side they take more memory than a check has.
set_option Elab.async false

/-! #### The sequence counter (R42, R44) -/

theorem after_next {n : Seq} (h : n ≠ BitVec.allOnes 48) :
    SequenceCounter.after n = .next (n + 1#48) ∧ (n + 1#48).toNat = n.toNat + 1 := by
  refine ⟨if_neg h, ?_⟩
  have hne : n.toNat ≠ 2 ^ 48 - 1 := fun e => h (BitVec.eq_of_toNat_eq (by rw [e, BitVec.toNat_allOnes]))
  have := n.isLt
  rw [BitVec.toNat_add]
  simp
  omega

theorem after_exhausted {n : Seq} (h : n = BitVec.allOnes 48) : SequenceCounter.after n = .exhausted := if_pos h

theorem counterLegal_after (n : Seq) : counterLegal (SequenceCounter.after n) := by
  by_cases h : n = BitVec.allOnes 48
  · rw [after_exhausted h]
    trivial
  · rw [(after_next h).1, counterLegal, (after_next h).2]
    omega

/-- What was given before a sequence was given before the one after it. -/
theorem givenBefore_after {m n : Seq} (h : givenBefore m (.next n)) : givenBefore m (SequenceCounter.after n) := by
  obtain ⟨hpos, hlt⟩ := h
  by_cases hn : n = BitVec.allOnes 48
  · rw [after_exhausted hn]
    exact hpos
  · rw [(after_next hn).1, givenBefore, (after_next hn).2]
    omega

/-- The sequence given now was given before the next one. -/
theorem givenBefore_given {n : Seq} (h : counterLegal (.next n)) : givenBefore n (SequenceCounter.after n) := by
  by_cases hn : n = BitVec.allOnes 48
  · rw [after_exhausted hn]
    exact h
  · rw [(after_next hn).1, givenBefore, (after_next hn).2]
    exact ⟨h, by omega⟩

/-- The sequence given next is no sequence given before. -/
theorem ne_of_givenBefore {m n : Seq} (h : givenBefore m (.next n)) : m ≠ n := by
  rintro rfl
  exact absurd h.2 (lt_irrefl _)

/-! #### The sequences of LIVE slots (R44) -/

/-- R44 of some slots and a counter. -/
def numbered (slots : Vector Slot 256) (counter : SequenceCounter) : Prop :=
  counterLegal counter ∧
    (∀ (i : SlotIx) (m : Message), slots[i] = .live m → givenBefore m.sequence counter) ∧
    ∀ (i j : SlotIx) (m m' : Message), slots[i] = .live m → slots[j] = .live m' → m.sequence = m'.sequence → i = j

theorem sequencesUnique_iff (s : State) : sequencesUnique s ↔ numbered s.pool.slots s.sequence := Iff.rfl

/-- Every slot that is LIVE after was LIVE before, under the same sequence. -/
def liveFrom (before after : Vector Slot 256) : Prop :=
  ∀ (i : SlotIx) (m' : Message), after[i] = .live m' → ∃ m, before[i] = .live m ∧ m.sequence = m'.sequence

theorem numbered.of_liveFrom {before after : Vector Slot 256} {counter : SequenceCounter}
    (h : numbered before counter) (hl : liveFrom before after) : numbered after counter := by
  obtain ⟨hc, hgiven, hone⟩ := h
  refine ⟨hc, fun i m' hm' => ?_, fun i j m m' hm hm' he => ?_⟩
  · obtain ⟨m, hm, hs⟩ := hl i m' hm'
    exact hs ▸ hgiven i m hm
  · obtain ⟨m₀, hm₀, hs⟩ := hl i m hm
    obtain ⟨m₁, hm₁, hs'⟩ := hl j m' hm'
    exact hone i j m₀ m₁ hm₀ hm₁ (hs.trans (he.trans hs'.symm))

/-- The slot submitted takes the next sequence, or is freed (R12, R44). -/
theorem numbered.give {slots : Vector Slot 256} {n : Seq} (h : numbered slots (.next n)) (slot : SlotIx) {sl : Slot}
    (hsl : ∀ m, sl = .live m → m.sequence = n) : numbered (slots.set slot sl) (SequenceCounter.after n) := by
  obtain ⟨hc, hgiven, hone⟩ := h
  refine ⟨counterLegal_after n, fun i m hm => ?_, fun i j m m' hm hm' he => ?_⟩
  · rw [set_get] at hm
    split at hm
    · rw [hsl m hm]
      exact givenBefore_given hc
    · exact givenBefore_after (hgiven i m hm)
  · rw [set_get] at hm hm'
    split at hm <;> split at hm'
    · rename_i hi hj
      exact hi.trans hj.symm
    · exact absurd (he.symm.trans (hsl m hm)) (ne_of_givenBefore (hgiven j m' hm'))
    · exact absurd (he.trans (hsl m' hm')) (ne_of_givenBefore (hgiven i m hm))
    · exact hone i j m m' hm hm' he

theorem liveFrom.trans {a b c : Vector Slot 256} (hab : liveFrom a b) (hbc : liveFrom b c) : liveFrom a c := by
  intro i m' hm'
  obtain ⟨m, hm, hs⟩ := hbc i m' hm'
  obtain ⟨m₀, hm₀, hs₀⟩ := hab i m hm
  exact ⟨m₀, hm₀, hs₀.trans hs⟩

/-- Reference drops make no slot LIVE and change no sequence (R14). -/
theorem liveFrom_dropAll (slots : Vector Slot 256) (refs : List SlotIx) : liveFrom slots (dropAll slots refs) := by
  intro i m' hm'
  rw [dropAll_get, iterate_dropped_eq_afterDrops] at hm'
  revert hm'
  unfold afterDrops
  split
  · rename_i m hm
    split
    · exact fun h => ⟨m', h, rfl⟩
    · split
      · exact fun h => by cases h
      · exact fun h => ⟨m, hm, by cases h; rfl⟩
  · exact fun h => ⟨m', h, rfl⟩
  · exact fun h => ⟨m', h, rfl⟩

theorem liveFrom_freeComposing (p : Port) (slots : Vector Slot 256) : liveFrom slots (freeComposing p slots) := by
  intro i m' hm'
  rw [freeComposing_get] at hm'
  split at hm'
  · cases hm'
  · exact ⟨m', hm', rfl⟩

theorem liveFrom_set {slots : Vector Slot 256} (slot : SlotIx) {sl : Slot} (hsl : ∀ m, sl ≠ .live m) :
    liveFrom slots (slots.set slot sl) := by
  intro i m' hm'
  rw [set_get] at hm'
  split at hm'
  · exact absurd hm' (hsl m')
  · exact ⟨m', hm', rfl⟩

theorem slotAfter_sequence (x : Posting) (payload : Payload) (stamp : Stamp) (kind : Kind) (n : Nat) (m : Message)
    (h : x.slotAfter payload stamp kind n = .live m) : m.sequence = x.sequence := by
  unfold Posting.slotAfter at h
  split at h
  · cases h
  · cases h
    rfl

theorem reset_sequencesUnique (s : State) : sequencesUnique s.pinReset := by
  have hfree : ∀ (i : SlotIx) (m : Message), s.pinReset.pool.slots[i] ≠ .live m := fun i m => by
    simp [State.reset, Pool.initial]
  exact ⟨Nat.one_pos, fun i m h => absurd h (hfree i m), fun i _ m _ h => absurd h (hfree i m)⟩

/-- Each effect gives the next sequence to the submitted slot, or makes no slot LIVE. -/
theorem sequencesUnique_preserved : Preserved (fun _ => True) sequencesUnique where
  torn s p d ph _ h _ := by
    rw [sequencesUnique_iff, State.setPhase_pool, State.teardown_pool, State.setPhase_sequence,
      State.teardown_sequence]
    exact numbered.of_liveFrom h ((liveFrom_freeComposing p _).trans (liveFrom_dropAll _ _))
  handDiscarded s p c _ h _ := by
    rw [sequencesUnique_iff, State.setPhase_pool, State.discardHand_pool, State.setPhase_sequence,
      State.discardHand_sequence]
    exact numbered.of_liveFrom h (liveFrom_dropAll _ _)
  reserved s p c i rest _ h _ _ _ := numbered.of_liveFrom h (liveFrom_set i nofun)
  written s p slot payload payload' _ h _ := numbered.of_liveFrom h (liveFrom_set slot nofun)
  abandoned s p slot _ h _ := numbered.of_liveFrom h (liveFrom_set slot nofun)
  acceptedQueued s x c payload lane policy _ h _ _ hn _ := by
    rw [sequencesUnique_iff, hn] at h
    exact (numbered.give h x.slot (slotAfter_sequence x _ _ _ _)).of_liveFrom (liveFrom_dropAll _ _)
  acceptedBoard s x c payload b _ h _ _ hn _ _ := by
    rw [sequencesUnique_iff, hn] at h
    exact (numbered.give h x.slot (slotAfter_sequence x _ _ _ _)).of_liveFrom (liveFrom_dropAll _ _)
  entryEnds s p c k x d n a _ h _ _ _ := by
    rw [sequencesUnique_iff, State.drained_pool, State.drained_sequence]
    exact numbered.of_liveFrom h (liveFrom_dropAll _ _)
  commits s p x _ h _ _ := numbered.of_liveFrom h (liveFrom_dropAll _ _)
  reset := reset_sequencesUnique

/-- Settles O59: R44 is kept effect by effect. -/
theorem sequencesAreGivenOnce : Obligations.SequencesAreGivenOnce :=
  fun _ _ hs ht => sequencesUnique_preserved.step hs ht

/-! #### The active table (R129) -/

theorem ruleFailure_of_firstFailure {t : Table} (h : t.firstFailure = none) (i : RuleIx) :
    t.ruleFailure t.rules[i] = none := by
  have hi := List.findSome?_eq_none_iff.1 h i (List.mem_finRange i)
  rwa [Option.map_eq_none_iff] at hi

/-- What a valid rule without a failure is (R127). -/
theorem lawful_of_ruleFailure {t : Table} {r : Rule} (hv : r.valid = true) (hf : t.ruleFailure r = none) :
    (∃ p : Port, r.source[p] = true) ∧ ∀ b : BoardIx, r.cls = .board b → t.boards[b].enabled = true := by
  unfold Table.ruleFailure at hf
  rw [if_neg (by simp [hv])] at hf
  by_cases hs : portCount r.source = 0
  · rw [if_pos hs] at hf
    cases hf
  · rw [if_neg hs] at hf
    refine ⟨(portCount_ne_zero _).1 hs, fun b hb => ?_⟩
    by_contra he
    rw [if_pos (by simpa [Table.namesDisabled, hb] using he)] at hf
    cases hf

/-- Validation lets a table pass only where R129 holds of it (R127). -/
theorem tableLawful_of_firstFailure {t : Table} (h : t.firstFailure = none) : tableLawful t :=
  fun i hv => lawful_of_ruleFailure hv (ruleFailure_of_firstFailure h i)

theorem reset_tableLawful (s : State) : tableLawful s.pinReset.table := by
  intro i hv
  simp [State.reset, Table.initial, Rule.cleared] at hv

/-- Only a commit and a reset write the active table. -/
theorem tableLawful_preserved : Preserved (fun _ => True) fun s => tableLawful s.table where
  torn s p d ph _ h _ := by
    rw [State.setPhase_table, State.teardown_table]
    exact h
  entryEnds s p c k x d n a _ h _ _ _ := by
    rw [State.drained_table]
    exact h
  commits _ _ _ _ _ _ hf := tableLawful_of_firstFailure hf
  reset := reset_tableLawful

/-- Settles O51: a commit validates the table it puts in force (R127). -/
theorem activeTableStaysLawful : Obligations.ActiveTableStaysLawful :=
  fun _ _ hs ht => tableLawful_preserved.step hs ht

end Sys2Proof.Proofs

/-! ### Proofs: the entries of a queue under its operations -/

namespace Sys2Proof.Proofs

open Sys2Proof.Machine Sys2Proof.Safety Sys2Proof.Statements Sys2Proof.Laws

-- One proof after another: side by side they take more memory than a check has.
set_option Elab.async false

/-! #### The hand (R64) -/

/-- An entry put at a free place of a list of optional ones is one more of those present. -/
theorem filterMap_id_set_perm {α : Type} {l : List (Option α)} {k : Nat} (x : α) (h : l[k]? = some none) :
    ((l.set k (some x)).filterMap id).Perm (x :: l.filterMap id) := by
  induction l generalizing k with
  | nil => simp at h
  | cons a l ih =>
    cases k with
    | zero =>
      obtain rfl : a = none := by simpa using h
      simp
    | succ k =>
      have hk := ih (k := k) (by simpa using h)
      cases a with
      | none => simpa using hk
      | some y => simpa using (hk.cons y).trans (List.Perm.swap x y _)

theorem handEntries_set_perm (q : Queue) {k : Handle} (x : HandEntry) (h : q.hand[k] = none) :
    ({ q with hand := q.hand.set k (some x) } : Queue).handEntries.Perm (x :: q.handEntries) := by
  have hk : q.hand.toList[k.val]? = some none := by
    rw [List.getElem?_eq_getElem (by simp)]
    simpa using h
  simpa [Queue.handEntries, Vector.toList_set] using filterMap_id_set_perm x hk

@[simp] theorem freeHandle_get (q : Queue) (k : Handle) : (q.freeHandle k).hand[k] = none := by
  simp [Queue.freeHandle]

/-- A hand entry and the hand without it. -/
theorem handEntries_perm_freeHandle {q : Queue} {k : Handle} {x : HandEntry} (h : q.hand[k] = some x) :
    q.handEntries.Perm (x :: (q.freeHandle k).handEntries) := by
  have hq : ({ q.freeHandle k with hand := (q.freeHandle k).hand.set k (some x) } : Queue) = q := by
    have hset : (q.hand.set k none).set k (some x) = q.hand := by
      rw [Vector.set_set, ← h]
      exact Vector.set_getElem_self k.isLt
    simp only [Queue.freeHandle, hset]
  simpa only [hq] using handEntries_set_perm (q.freeHandle k) x (freeHandle_get q k)

@[simp] theorem handEntries_replicate_none (u n : List Entry) (o d x : Half) :
    (Queue.mk u n (Vector.replicate 4 none) o d x).handEntries = [] := by
  simp [Queue.handEntries]

/-! #### All entries of a queue -/

theorem entriesOf_perm (q q' : Queue) (hu : q'.urgent = q.urgent) (hn : q'.normal = q.normal)
    {es : List Entry} (hh : (q'.handEntries.map fun x => x.entry).Perm (es ++ q.handEntries.map fun x => x.entry)) :
    (entriesOf q').Perm (es ++ entriesOf q) := by
  unfold entriesOf
  rw [hu, hn]
  refine (hh.append_left _).trans ?_
  rw [← List.append_assoc, ← List.append_assoc]
  exact List.perm_append_comm.append_right _

/-- A hand entry that ends leaves the others. -/
theorem entriesOf_freeHandle {q : Queue} {k : Handle} {x : HandEntry} (h : q.hand[k] = some x) :
    (entriesOf q).Perm (x.entry :: entriesOf (q.freeHandle k)) :=
  entriesOf_perm (q.freeHandle k) q (es := [x.entry]) rfl rfl ((handEntries_perm_freeHandle h).map _)

theorem entriesOf_setHand (q : Queue) {k : Handle} (x : HandEntry) (h : q.hand[k] = none) :
    (entriesOf { q with hand := q.hand.set k (some x) }).Perm (x.entry :: entriesOf q) :=
  entriesOf_perm q { q with hand := q.hand.set k (some x) } (es := [x.entry]) rfl rfl
    ((handEntries_set_perm q x h).map _)

/-- A new lease is no new entry (R72). -/
theorem entriesOf_renewed {q : Queue} {k : Handle} {x : HandEntry} (h : q.hand[k] = some x) (lease : Timer) :
    (entriesOf { q with hand := q.hand.set k (some { x with lease := lease }) }).Perm (entriesOf q) := by
  have hs := entriesOf_setHand (q.freeHandle k) { x with lease := lease } (freeHandle_get q k)
  simp only [Queue.freeHandle, Vector.set_set] at hs
  exact hs.trans (entriesOf_freeHandle h).symm

theorem entriesOf_setLane (q : Queue) (l : Lane) {es fs : List Entry} (h : es.Perm (fs ++ q.lane l)) :
    (entriesOf (q.setLane l es)).Perm (fs ++ entriesOf q) := by
  cases l with
  | urgent =>
    simpa only [entriesOf, Queue.setLane, Queue.lane, Queue.handEntries, List.append_assoc] using
      h.append_right _
  | normal =>
    have hm : (q.urgent ++ es).Perm (fs ++ (q.urgent ++ q.normal)) := by
      refine (h.append_left _).trans ?_
      rw [Queue.lane, ← List.append_assoc, ← List.append_assoc]
      exact List.perm_append_comm.append_right _
    simpa only [entriesOf, Queue.setLane, Queue.handEntries, List.append_assoc] using hm.append_right _

/-- An entry back in its lane is one more (R71, R76). -/
theorem entriesOf_putBack (q : Queue) (e : Entry) : (entriesOf (q.putBack e)).Perm (e :: entriesOf q) :=
  entriesOf_setLane q e.lane (fs := [e]) (insertBySequence_perm e _)

/-- A new entry at the tail of its lane is one more (R49). -/
theorem entriesOf_append (q : Queue) (e : Entry) : (entriesOf (q.append e)).Perm (e :: entriesOf q) :=
  entriesOf_setLane q e.lane (fs := [e]) (List.perm_append_singleton e _)

/-- What an eviction takes: the head of the rule's lane, or of the other (R52). -/
theorem evict_some {q q' : Queue} {l : Lane} {e : Entry} (h : q.evict l = some (e, q')) :
    ∃ l' es, q.lane l' = e :: es ∧ q' = q.setLane l' es := by
  unfold Queue.evict at h
  split at h
  · rename_i e' es hl
    cases h
    exact ⟨l, es, hl, rfl⟩
  · split at h
    · rename_i e' es hl
      cases h
      exact ⟨l.other, es, hl, rfl⟩
    · cases h

theorem setLane_lane (q : Queue) (l : Lane) : q.setLane l (q.lane l) = q := by cases l <;> rfl

theorem setLane_setLane (q : Queue) (l : Lane) (es fs : List Entry) :
    (q.setLane l es).setLane l fs = q.setLane l fs := by cases l <;> rfl

theorem lane_setLane (q : Queue) (l : Lane) (es : List Entry) : (q.setLane l es).lane l = es := by
  cases l <;> rfl

theorem entriesOf_tail {q : Queue} {l : Lane} {e : Entry} {es : List Entry} (h : q.lane l = e :: es) :
    (entriesOf q).Perm (e :: entriesOf (q.setLane l es)) := by
  have hs := entriesOf_setLane (q.setLane l es) l (es := e :: es) (fs := [e]) (by rw [lane_setLane]; rfl)
  rwa [setLane_setLane, ← h, setLane_lane] at hs

theorem entriesOf_evict {q q' : Queue} {l : Lane} {e : Entry} (h : q.evict l = some (e, q')) :
    (entriesOf q).Perm (e :: entriesOf q') := by
  obtain ⟨l', es, hl, rfl⟩ := evict_some h
  exact entriesOf_tail hl

/-- The next entry is the head of a lane, and the queue without it has that lane's rest (R66). -/
theorem nextEntry_some {q : Queue} {e : Entry} (h : q.nextEntry = some e) :
    ∃ l es, q.lane l = e :: es ∧ q.popNext = q.setLane l es := by
  unfold Queue.nextEntry at h
  split at h
  · rename_i e' es hu
    cases h
    exact ⟨.urgent, es, hu, (nextEntry_urgent hu).2⟩
  · rename_i hu
    cases hn : q.normal with
    | nil => simp [hn] at h
    | cons e' es =>
      obtain rfl : e' = e := by simpa [hn] using h
      exact ⟨.normal, es, hn, (nextEntry_normal hu hn).2⟩

/-- TAKE moves an entry and neither adds nor loses one (R66). -/
theorem entriesOf_takeInto {q : Queue} {k : Handle} {e : Entry} (lease : Timer) (hk : q.hand[k] = none)
    (h : q.nextEntry = some e) : (entriesOf (q.takeInto k e lease)).Perm (entriesOf q) := by
  obtain ⟨l, es, hl, hp⟩ := nextEntry_some h
  have hhand : (q.setLane l es).hand = q.hand := by cases l <;> rfl
  have hs := entriesOf_setHand (q.setLane l es) { entry := e, lease := lease } (k := k) (by rw [hhand]; exact hk)
  rw [hhand, ← hp] at hs
  rw [hp] at hs
  refine List.Perm.trans ?_ (hs.trans (entriesOf_tail hl).symm)
  simp only [Queue.takeInto, hp]
  rfl

theorem entriesOf_counted (q : Queue) (o d n : Half) :
    entriesOf { q with overflow := o, discard := d, expiry := n } = entriesOf q := rfl

/-- The entries are as many as the occupancy counts (R63). -/
theorem length_entriesOf (q : Queue) : (entriesOf q).length = q.occupancy := by
  simp [entriesOf, Queue.occupancy, Queue.handCount, Nat.add_assoc]

/-! #### What a delivery does at one destination (R49 to R53) -/

/-- A delivery skips the destination, appends, or appends in the place of an evicted entry. -/
theorem deliver_cases (q : Queue) (full : Bool) (policy : FullPolicy) (e : Entry) :
    q.deliver full policy e = q.skip ∨
      (full = false ∧
        q.deliver full policy e = { queue := q.append e, delivered := true, evicted := none, lost := false }) ∨
      ∃ old q', full = true ∧ q.evict e.lane = some (old, q') ∧
        q.deliver full policy e =
          { queue := { q' with overflow := satAdd q'.overflow 1 }.append e
            delivered := true
            evicted := some old.slot
            lost := true } := by
  cases full with
  | false => exact .inr (.inl ⟨rfl, rfl⟩)
  | true =>
    cases policy with
    | refuse => exact .inl rfl
    | dropNew => exact .inl rfl
    | dropOldest =>
      cases he : q.evict e.lane with
      | none => exact .inl (by simp [Queue.deliver, he])
      | some x =>
        obtain ⟨old, q'⟩ := x
        exact .inr (.inr ⟨old, q', rfl, rfl, by simp [Queue.deliver, he]⟩)

/-- The delivery at a port: untouched outside the set. -/
theorem deliveries_get (s : State) (d : PortSet) (policy : FullPolicy) (e : Entry) (p : Port) :
    (s.deliveries d policy e)[p] =
      if d[p] then s.queues[p].deliver (s.isFull p) policy e
      else { queue := s.queues[p], delivered := false, evicted := none, lost := false } := by
  simp [State.deliveries]

theorem deliveries_queue_get (s : State) (d : PortSet) (policy : FullPolicy) (e : Entry) (p : Port) :
    ((s.deliveries d policy e).map fun x => x.queue)[p] =
      if d[p] then (s.queues[p].deliver (s.isFull p) policy e).queue else s.queues[p] := by
  rw [Fin.getElem_fin, Vector.getElem_map, ← Fin.getElem_fin, deliveries_get]
  split <;> rfl

/-! #### What acceptance writes (R42, R55, R58) -/

section Acceptance

variable (s : State) (x : Posting) (payload : Payload) (ds : PerPort Delivery) (b : BoardIx) (readers : PortSet)

@[simp] theorem acceptQueued_queues : (s.acceptQueued x payload ds).queues = ds.map fun d => d.queue := rfl
@[simp] theorem acceptQueued_sequence :
    (s.acceptQueued x payload ds).sequence = SequenceCounter.after x.sequence := rfl
@[simp] theorem acceptQueued_pool :
    (s.acceptQueued x payload ds).pool =
      s.pool.after (dropAll
        (s.pool.slots.set x.slot (x.slotAfter payload s.timeBase .queued (portCount (deliveredSet ds))))
        (evictedSlots ds)) := rfl
@[simp] theorem acceptQueued_boards : (s.acceptQueued x payload ds).boards = s.boards := rfl
@[simp] theorem acceptQueued_sessions : (s.acceptQueued x payload ds).sessions = s.sessions := rfl
@[simp] theorem acceptQueued_pulls : (s.acceptQueued x payload ds).pulls = s.pulls := rfl
@[simp] theorem acceptQueued_table : (s.acceptQueued x payload ds).table = s.table := rfl
@[simp] theorem acceptQueued_claim : (s.acceptQueued x payload ds).claim = s.claim := rfl

@[simp] theorem acceptBoard_queues : (s.acceptBoard x payload b readers).queues = s.queues := rfl
@[simp] theorem acceptBoard_sequence :
    (s.acceptBoard x payload b readers).sequence = SequenceCounter.after x.sequence := rfl
@[simp] theorem acceptBoard_pool :
    (s.acceptBoard x payload b readers).pool =
      s.pool.after (dropAll (s.pool.slots.set x.slot (x.slotAfter payload s.timeBase .boarded 1))
        s.boards[b].held.toList) := rfl
@[simp] theorem acceptBoard_boards :
    (s.acceptBoard x payload b readers).boards =
      s.boards.set b (s.boards[b].updated x.slot x.sequence
        (Vector.ofFn fun p : Port => readers[p] || s.waitsFor p b)) := rfl
@[simp] theorem acceptBoard_sessions : (s.acceptBoard x payload b readers).sessions = s.sessions := rfl
@[simp] theorem acceptBoard_pulls :
    (s.acceptBoard x payload b readers).pulls = satisfyPulls s.pulls b x.sequence := rfl
@[simp] theorem acceptBoard_table : (s.acceptBoard x payload b readers).table = s.table := rfl
@[simp] theorem acceptBoard_claim : (s.acceptBoard x payload b readers).claim = s.claim := rfl

end Acceptance

/-! #### Ticks -/

theorem handEntries_atTick (q : Queue) (now : Stamp) :
    (q.atTick now).handEntries = q.handEntries.map fun x => x.atTick now := by
  simp only [Queue.handEntries, Queue.atTick, Vector.toList_map]
  induction q.hand.toList with
  | nil => rfl
  | cons a l ih =>
    cases a with
    | none => simpa using ih
    | some x => simpa using ih

/-- A tick moves no entry (R156). -/
@[simp] theorem entriesOf_atTick (q : Queue) (now : Stamp) : entriesOf (q.atTick now) = entriesOf q := by
  unfold entriesOf
  rw [handEntries_atTick, List.map_map]
  rfl

@[simp] theorem handCount_atTick (q : Queue) (now : Stamp) : (q.atTick now).handCount = q.handCount := by
  simp [Queue.handCount, handEntries_atTick]

end Sys2Proof.Proofs

/-! ### Proofs: lanes in order of sequence -/

namespace Sys2Proof.Proofs

open Sys2Proof.Machine Sys2Proof.Safety Sys2Proof.Statements Sys2Proof.Laws

-- One proof after another: side by side they take more memory than a check has.
set_option Elab.async false

/-- What holds of every element holds of every element after one is replaced by another of which it holds. -/
theorem forall_set {α : Type} {n : Nat} {v : Vector α n} {Q : Fin n → α → Prop} (h : ∀ r : Fin n, Q r v[r])
    {i : Fin n} {a : α} (ha : Q i a) (r : Fin n) : Q r (v.set i a)[r] := by
  rw [set_get]
  split
  · rename_i hr
    exact hr ▸ ha
  · exact h r

/-! #### One lane -/

/-- A lane ascends and its entries name it (R62). -/
def laneOrdered (l : Lane) (es : List Entry) : Prop := ascending es ∧ ∀ e ∈ es, e.lane = l

theorem laneOrdered.nil (l : Lane) : laneOrdered l [] := ⟨List.Pairwise.nil, nofun⟩

theorem laneOrdered.tail {l : Lane} {e : Entry} {es : List Entry} (h : laneOrdered l (e :: es)) : laneOrdered l es :=
  ⟨(List.pairwise_cons.1 h.1).2, fun e he => h.2 e (List.mem_cons_of_mem _ he)⟩

/-- A greater sequence goes to the tail (R49). -/
theorem laneOrdered.concat {es : List Entry} {e : Entry} (h : laneOrdered e.lane es)
    (hlt : ∀ x ∈ es, x.sequence < e.sequence) : laneOrdered e.lane (es ++ [e]) := by
  refine ⟨List.pairwise_append.2 ⟨h.1, List.pairwise_singleton _ _, fun x hx y hy => ?_⟩, fun x hx => ?_⟩
  · rw [List.mem_singleton.1 hy]
    exact hlt x hx
  · rcases List.mem_append.1 hx with hx | hx
    · exact h.2 x hx
    · rw [List.mem_singleton.1 hx]

theorem ascending_insert {e : Entry} {es : List Entry} (h : ascending es) (hne : ∀ x ∈ es, x.sequence ≠ e.sequence) :
    ascending (insertBySequence e es) := by
  induction es with
  | nil => exact List.pairwise_singleton _ _
  | cons x xs ih =>
    obtain ⟨hx, hxs⟩ := List.pairwise_cons.1 h
    unfold insertBySequence
    split
    · rename_i hlt
      refine List.pairwise_cons.2 ⟨fun y hy => ?_, h⟩
      rcases List.mem_cons.1 hy with rfl | hy
      · exact hlt
      · exact BitVec.lt_trans hlt (hx y hy)
    · rename_i hnlt
      refine List.pairwise_cons.2 ⟨fun y hy => ?_, ih hxs fun y hy => hne y (List.mem_cons_of_mem _ hy)⟩
      rcases List.mem_cons.1 ((insertBySequence_perm e xs).mem_iff.1 hy) with rfl | hy
      · exact BitVec.lt_of_le_ne (BitVec.not_lt.1 hnlt) (hne x List.mem_cons_self)
      · exact hx y hy

/-- An entry back at its place by sequence (R76). -/
theorem laneOrdered.insert {e : Entry} {es : List Entry} (h : laneOrdered e.lane es)
    (hne : ∀ x ∈ es, x.sequence ≠ e.sequence) : laneOrdered e.lane (insertBySequence e es) := by
  refine ⟨ascending_insert h.1 hne, fun x hx => ?_⟩
  rcases List.mem_cons.1 ((insertBySequence_perm e es).mem_iff.1 hx) with rfl | hx
  · rfl
  · exact h.2 x hx

/-! #### One queue -/

/-- The sequences of all entries of a port. -/
def sequencesOf (q : Queue) : List Seq := (entriesOf q).map fun e => e.sequence

/-- R62 of one queue, lane by lane, and that each sequence it holds is held once and was given before. -/
def ordered (counter : SequenceCounter) (q : Queue) : Prop :=
  (∀ l : Lane, laneOrdered l (q.lane l)) ∧ (sequencesOf q).Nodup ∧ ∀ n ∈ sequencesOf q, givenBefore n counter

theorem ordered_iff (counter : SequenceCounter) (q : Queue) :
    ordered counter q ↔ queueOrdered q ∧ ∀ e ∈ entriesOf q, givenBefore e.sequence counter := by
  have hnodup : (sequencesOf q).Nodup ↔ (entriesOf q).Pairwise fun a b => a.sequence ≠ b.sequence :=
    List.pairwise_map
  have hgiven : (∀ n ∈ sequencesOf q, givenBefore n counter) ↔
      ∀ e ∈ entriesOf q, givenBefore e.sequence counter := List.forall_mem_map
  unfold ordered queueOrdered
  rw [hnodup, hgiven]
  constructor
  · rintro ⟨hl, hn, hg⟩
    exact ⟨⟨(hl .urgent).1, (hl .normal).1, (hl .urgent).2, (hl .normal).2, hn⟩, hg⟩
  · rintro ⟨⟨hu, hn, hul, hnl, hd⟩, hg⟩
    exact ⟨fun l => by cases l; exacts [⟨hn, hnl⟩, ⟨hu, hul⟩], hd, hg⟩

theorem lanesOrdered_iff (s : State) :
    lanesOrdered s ↔ counterLegal s.sequence ∧ ∀ p : Port, ordered s.sequence s.queues[p] := by
  simp only [lanesOrdered, ordered_iff]

/-- A queue in order stays so with lanes in order and no sequence it did not hold. -/
theorem ordered.of_lanes {counter : SequenceCounter} {q q' : Queue} (h : ordered counter q)
    (hl : ∀ l : Lane, laneOrdered l (q'.lane l)) (hs : (sequencesOf q').Subperm (sequencesOf q)) :
    ordered counter q' := by
  refine ⟨hl, ?_, fun n hn => h.2.2 n (hs.subset hn)⟩
  obtain ⟨es, hp, hsub⟩ := hs
  exact hp.nodup_iff.1 (h.2.1.sublist hsub)

theorem sequencesOf_perm {q q' : Queue} (h : (entriesOf q').Perm (entriesOf q)) :
    (sequencesOf q').Perm (sequencesOf q) := h.map _

theorem sequencesOf_cons {q q' : Queue} {e : Entry} (h : (entriesOf q').Perm (e :: entriesOf q)) :
    (sequencesOf q').Perm (e.sequence :: sequencesOf q) := h.map _

/-- A queue with the same lanes and some of the entries. -/
theorem ordered.of_hand {counter : SequenceCounter} {q q' : Queue} (h : ordered counter q)
    (hu : q'.urgent = q.urgent) (hn : q'.normal = q.normal) (hs : (sequencesOf q').Subperm (sequencesOf q)) :
    ordered counter q' := by
  refine h.of_lanes (fun l => ?_) hs
  have hlane : q'.lane l = q.lane l := by cases l; exacts [hn, hu]
  exact hlane ▸ h.1 l

theorem laneOrdered_setLane {q : Queue} (h : ∀ l : Lane, laneOrdered l (q.lane l)) {l : Lane} {es : List Entry}
    (hes : laneOrdered l es) (l' : Lane) : laneOrdered l' ((q.setLane l es).lane l') := by
  cases l <;> cases l'
  · exact hes
  · exact h .urgent
  · exact h .normal
  · exact hes

/-- A queue without the head of a lane. -/
theorem ordered.tail {counter : SequenceCounter} {q : Queue} (h : ordered counter q) {l : Lane} {e : Entry}
    {es : List Entry} (hl : q.lane l = e :: es) : ordered counter (q.setLane l es) := by
  refine h.of_lanes (laneOrdered_setLane h.1 (laneOrdered.tail (e := e) (hl ▸ h.1 l))) ?_
  exact (List.subperm_cons_self.trans (sequencesOf_cons (entriesOf_tail hl)).symm.subperm)

/-- TAKE (R66). -/
theorem ordered.takeInto {counter : SequenceCounter} {q : Queue} (h : ordered counter q) {k : Handle} {e : Entry}
    (lease : Timer) (hk : q.hand[k] = none) (he : q.nextEntry = some e) :
    ordered counter (q.takeInto k e lease) := by
  obtain ⟨l, es, hl, hp⟩ := nextEntry_some he
  refine h.of_lanes (fun l' => ?_) (sequencesOf_perm (entriesOf_takeInto lease hk he)).subperm
  have hlane : (q.takeInto k e lease).lane l' = (q.setLane l es).lane l' := by
    rw [← hp]
    cases l' <;> rfl
  rw [hlane]
  exact (h.tail hl).1 l'

/-- A hand entry that ends (R70, R71, R74). -/
theorem ordered.freeHandle {counter : SequenceCounter} {q : Queue} (h : ordered counter q) {k : Handle} {x : HandEntry}
    (hx : q.hand[k] = some x) : ordered counter (q.freeHandle k) :=
  h.of_hand rfl rfl (List.subperm_cons_self.trans (sequencesOf_cons (entriesOf_freeHandle hx)).symm.subperm)

/-- A hand entry that goes back to its lane (R71, R74, R76). -/
theorem ordered.putBack {counter : SequenceCounter} {q : Queue} (h : ordered counter q) {k : Handle} {x : HandEntry}
    (hx : q.hand[k] = some x) (r : Nat) :
    ordered counter ((q.freeHandle k).putBack { x.entry with redelivery := r }) := by
  have hq := sequencesOf_cons (entriesOf_freeHandle hx)
  have hnew : x.entry.sequence ∉ sequencesOf (q.freeHandle k) := (List.nodup_cons.1 (hq.nodup_iff.1 h.2.1)).1
  refine h.of_lanes (laneOrdered_setLane (h.freeHandle hx).1 (laneOrdered.insert ((h.freeHandle hx).1 _) ?_)) ?_
  · intro y hy hs
    refine hnew (hs ▸ List.mem_map_of_mem ?_)
    unfold entriesOf
    cases hl : x.entry.lane <;> rw [show ({ x.entry with redelivery := r } : Entry).lane = _ from hl] at hy
    · exact List.mem_append_left _ (List.mem_append_right _ hy)
    · exact List.mem_append_left _ (List.mem_append_left _ hy)
  · have hp := sequencesOf_cons (entriesOf_putBack (q.freeHandle k) { x.entry with redelivery := r })
    exact (hp.trans hq.symm).subperm

/-- A queue a submission does not touch. -/
theorem ordered.untouched {n : Seq} {q : Queue} (h : ordered (.next n) q) : ordered (SequenceCounter.after n) q :=
  ⟨h.1, h.2.1, fun m hm => givenBefore_after (h.2.2 m hm)⟩

/-- A new entry carries a sequence above all others (R42, R49). -/
theorem ordered.append {q : Queue} {e : Entry} (hc : counterLegal (.next e.sequence)) (h : ordered (.next e.sequence) q) :
    ordered (SequenceCounter.after e.sequence) (q.append e) := by
  have hs := sequencesOf_cons (entriesOf_append q e)
  have hlane : ∀ x ∈ q.lane e.lane, x.sequence < e.sequence := by
    intro x hx
    refine BitVec.lt_def.2 (h.2.2 x.sequence (List.mem_map_of_mem ?_)).2
    unfold entriesOf
    cases hl : e.lane <;> rw [hl] at hx
    · exact List.mem_append_left _ (List.mem_append_right _ hx)
    · exact List.mem_append_left _ (List.mem_append_left _ hx)
  refine ⟨laneOrdered_setLane h.1 ((h.1 e.lane).concat hlane), ?_, fun m hm => ?_⟩
  · rw [hs.nodup_iff, List.nodup_cons]
    exact ⟨fun hm => ne_of_givenBefore (h.2.2 _ hm) rfl, h.2.1⟩
  · rcases List.mem_cons.1 (hs.mem_iff.1 hm) with rfl | hm
    · exact givenBefore_given hc
    · exact givenBefore_after (h.2.2 m hm)

/-- A delivery at one destination, whichever it is (R49 to R53). -/
theorem ordered.deliver {q : Queue} {e : Entry} (hc : counterLegal (.next e.sequence)) (h : ordered (.next e.sequence) q)
    (full : Bool) (policy : FullPolicy) : ordered (SequenceCounter.after e.sequence) (q.deliver full policy e).queue := by
  rcases deliver_cases q full policy e with hd | ⟨-, hd⟩ | ⟨old, q', -, he, hd⟩ <;> rw [hd]
  · exact h.untouched
  · exact h.append hc
  · obtain ⟨l, es, hl, rfl⟩ := evict_some he
    exact ordered.append hc (h.tail hl)

theorem ordered.torn {counter : SequenceCounter} {q : Queue} (h : ordered counter q) (discard : Half) :
    ordered counter { q with urgent := [], normal := [] } ∧
      ordered counter { q with urgent := [], normal := [], hand := Vector.replicate 4 none, discard := discard } := by
  constructor <;> refine h.of_lanes (fun l => by cases l <;> exact laneOrdered.nil _) (List.Sublist.subperm ?_)
  · exact ((List.sublist_append_right _ _).map _)
  · exact (List.nil_sublist _).map _

/-- The hand discarded (R148, R150). -/
theorem ordered.emptied {counter : SequenceCounter} {q : Queue} (h : ordered counter q) (discard : Half) :
    ordered counter { q with hand := Vector.replicate 4 none, discard := discard } := by
  refine h.of_hand rfl rfl (List.Sublist.subperm (List.Sublist.map _ ?_))
  simp [entriesOf]

theorem ordered.atTick {counter : SequenceCounter} {q : Queue} (h : ordered counter q) (now : Stamp) :
    ordered counter (q.atTick now) :=
  h.of_hand rfl rfl (sequencesOf_perm (by rw [entriesOf_atTick])).subperm

/-! #### Every step -/

theorem lanesOrdered_setQueue {s : State} (h : lanesOrdered s) {p : Port} {q : Queue}
    (hq : ordered s.sequence s.queues[p] → ordered s.sequence q) : lanesOrdered (s.setQueue p q) := by
  rw [lanesOrdered_iff] at h ⊢
  exact ⟨h.1, forall_set h.2 (hq (h.2 p))⟩

theorem reset_lanesOrdered (s : State) : lanesOrdered s.pinReset := by
  refine ⟨Nat.one_pos, fun p => ?_⟩
  simp [State.reset, Queue.initial, queueOrdered, entriesOf, ascending]

/-- Each effect leaves lanes in order, appends the next sequence, or puts an entry back in order. -/
theorem lanesOrdered_preserved : Preserved (fun _ => True) lanesOrdered where
  torn s p d ph _ h _ := by
    rw [lanesOrdered_iff] at h ⊢
    simp only [State.setPhase_queues, State.setPhase_sequence, State.teardown_queues, State.teardown_sequence]
    refine ⟨h.1, forall_set h.2 ?_⟩
    have ht := (h.2 p).torn (satAdd s.queues[p].discard s.queues[p].handCount)
    cases d
    · exact ht.1
    · exact ht.2
  handDiscarded s p c _ h _ := by
    rw [lanesOrdered_iff] at h ⊢
    simp only [State.setPhase_queues, State.setPhase_sequence, State.discardHand_queues,
      State.discardHand_sequence]
    exact ⟨h.1, forall_set h.2 ((h.2 p).emptied _)⟩
  acceptedQueued s x c payload lane policy _ h _ _ hn _ := by
    rw [lanesOrdered_iff, hn] at h
    refine (lanesOrdered_iff _).2 ⟨counterLegal_after x.sequence, fun p => ?_⟩
    have hq := h.2 p
    rw [acceptQueued_queues, acceptQueued_sequence, deliveries_queue_get]
    split
    · exact ordered.deliver (e := { slot := x.slot, sequence := x.sequence, lane := lane, redelivery := 0 })
        h.1 hq _ _
    · exact hq.untouched
  acceptedBoard s x c payload b _ h _ _ hn _ _ := by
    rw [lanesOrdered_iff, hn] at h
    exact (lanesOrdered_iff _).2 ⟨counterLegal_after x.sequence, fun p => (h.2 p).untouched⟩
  taken s p c k e lease _ h _ hk he := lanesOrdered_setQueue h fun hq => hq.takeInto lease hk he
  entryEnds s p c k x d n a _ h _ hx _ := by
    rw [lanesOrdered_iff, State.drained_queues, State.drained_sequence]
    exact (lanesOrdered_iff _).1 (lanesOrdered_setQueue h fun hq => hq.freeHandle hx)
  returned s p c k x n r _ h _ hx _ := lanesOrdered_setQueue h fun hq =>
    ordered.putBack (q := { s.queues[p] with expiry := n }) hq hx r
  renewed s p c k x lease _ h _ hx := lanesOrdered_setQueue h fun hq =>
    hq.of_hand rfl rfl (sequencesOf_perm (entriesOf_renewed hx lease)).subperm
  queueCounted s p o d n h := lanesOrdered_setQueue h id
  examined s h := by
    rw [lanesOrdered_iff] at h ⊢
    refine ⟨h.1, fun p => ?_⟩
    simpa [State.examineTimers] using (h.2 p).atTick s.timeBase
  reset := reset_lanesOrdered

/-- Settles O52: R62 is kept effect by effect. -/
theorem lanesStayInSequenceOrder : Obligations.LanesStayInSequenceOrder :=
  fun _ _ hs ht => lanesOrdered_preserved.step hs ht

end Sys2Proof.Proofs

/-! ### Proofs: what a closed port holds -/

namespace Sys2Proof.Proofs

open Sys2Proof.Machine Sys2Proof.Safety Sys2Proof.Statements Sys2Proof.Laws

-- One proof after another: side by side they take more memory than a check has.
set_option Elab.async false

/-! #### The composer of a slot under the slot operations -/

theorem dropped_composedBy (sl : Slot) (p : Port) : sl.dropped.composedBy p = sl.composedBy p := by
  cases sl with
  | free => rfl
  | composing owner payload => rfl
  | live m =>
    rw [Slot.dropped]
    split <;> rfl

theorem dropAll_composedBy (slots : Vector Slot 256) (refs : List SlotIx) (i : SlotIx) (p : Port) :
    (dropAll slots refs)[i].composedBy p = slots[i].composedBy p := by
  rw [dropAll_get]
  induction refs.count i with
  | zero => rfl
  | succ k ih => rw [Function.iterate_succ_apply', dropped_composedBy, ih]

theorem freeComposing_composedBy (p r : Port) (slots : Vector Slot 256) (i : SlotIx) :
    (freeComposing p slots)[i].composedBy r = (slots[i].composedBy r && decide (r ≠ p)) := by
  rw [freeComposing_get]
  by_cases hr : r = p
  · subst hr
    split
    · simp [Slot.composedBy]
    · rename_i h
      simpa using h
  · split
    · rename_i h
      obtain ⟨payload, h⟩ := composedBy_iff.1 h
      have hp : ¬p = r := fun e => hr e.symm
      simp [h, Slot.composedBy, hp]
    · simp [hr]

theorem set_not_composedBy {slots : Vector Slot 256} {slot : SlotIx} {sl : Slot} {p : Port}
    (h : ∀ i : SlotIx, slots[i].composedBy p = false) (hsl : sl.composedBy p = false) (i : SlotIx) :
    (slots.set slot sl)[i].composedBy p = false :=
  forall_set (Q := fun _ (sl : Slot) => sl.composedBy p = false) h hsl i

theorem slotAfter_composedBy (x : Posting) (payload : Payload) (stamp : Stamp) (kind : Kind) (n : Nat) (p : Port) :
    (x.slotAfter payload stamp kind n).composedBy p = false := by
  unfold Posting.slotAfter
  split <;> rfl

theorem composing_other {p r : Port} (h : r ≠ p) (payload : Payload) :
    (Slot.composing p payload).composedBy r = false := by
  simpa [Slot.composedBy] using Ne.symm h

/-! #### A port that holds nothing (R151) -/

/-- What a port that is not OPEN has in the blocks: nothing, but for its hand. -/
structure Idle (s : State) (r : Port) : Prop where
  urgent : s.queues[r].urgent = []
  normal : s.queues[r].normal = []
  composing : ∀ i : SlotIx, s.pool.slots[i].composedBy r = false
  unread : ∀ b : BoardIx, s.boards[b].unread[r] = false
  pulls : ∀ e ∈ s.pulls, e.requester ≠ r
  claim : ∀ c : Claim, s.claim = some c → c.holder ≠ r

/-- R151 of one port, by its session state; `n` is the number of its hand entries. -/
def heldIn (ph : Phase) (idle : Prop) (n : Nat) : Prop :=
  match ph with
  | .opened _ => True
  | .closing _ => idle ∧ n ≠ 0
  | .closed => idle ∧ n = 0
  | .fenced => idle ∧ n = 0

theorem heldIn.imp {ph : Phase} {i i' : Prop} {n n' : Nat} (h : heldIn ph i n)
    (hi : ph.isOpen = false → (i → i') ∧ n' = n) : heldIn ph i' n' := by
  cases ph with
  | opened c => trivial
  | closing c =>
    obtain ⟨hid, rfl⟩ := hi rfl
    exact ⟨hid h.1, h.2⟩
  | closed =>
    obtain ⟨hid, rfl⟩ := hi rfl
    exact ⟨hid h.1, h.2⟩
  | fenced =>
    obtain ⟨hid, rfl⟩ := hi rfl
    exact ⟨hid h.1, h.2⟩

/-- A restarted silence timer is no other session state. -/
theorem heldIn.mapConn {ph : Phase} {i : Prop} {n : Nat} (h : heldIn ph i n) (f : Conn → Conn) :
    heldIn (ph.mapConn f) i n := by
  cases ph <;> exact h

theorem heldIn.idle {ph : Phase} {i : Prop} {n : Nat} (h : heldIn ph i n) (ho : ph.isOpen = false) : i := by
  cases ph with
  | opened c => cases ho
  | closing c => exact h.1
  | closed => exact h.1
  | fenced => exact h.1

theorem heldIn_iff (ph : Phase) (i : Prop) (n : Nat) :
    heldIn ph i n ↔ (ph.isOpen = false → i) ∧ (ph.conn? = none → n = 0) ∧ ∀ c, ph = .closing c → n ≠ 0 := by
  cases ph <;> simp [heldIn, Phase.isOpen, Phase.conn?]

theorem heldIn_of_isOpen {ph : Phase} {i : Prop} {n : Nat} (h : ph.isOpen = true) : heldIn ph i n := by
  cases ph with
  | opened c => trivial
  | closing c => cases h
  | closed => cases h
  | fenced => cases h

theorem closedHoldsNothing_iff (s : State) :
    closedHoldsNothing s ↔ ∀ r : Port, heldIn s.sessions[r].phase (Idle s r) s.queues[r].handCount := by
  simp only [heldIn_iff]
  constructor
  · rintro ⟨hidle, hnone, hclosing⟩ r
    refine ⟨fun hr => ?_, hnone r, hclosing r⟩
    obtain ⟨hu, hn, hc, hb, hp, hx⟩ := hidle r hr
    exact ⟨hu, hn, hc, hb, hp, hx⟩
  · intro h
    refine ⟨fun r hr => ?_, fun r => (h r).2.1, fun r => (h r).2.2⟩
    obtain ⟨hu, hn, hc, hb, hp, hx⟩ := (h r).1 hr
    exact ⟨hu, hn, hc, hb, hp, hx⟩

theorem idle_of_not_open {s : State} (h : closedHoldsNothing s) {r : Port} (hr : s.isOpen r = false) : Idle s r :=
  ((closedHoldsNothing_iff s).1 h r).idle hr

/-- A change that keeps sessions, and what a port that is not OPEN lacks. -/
theorem closedHoldsNothing.of_share {s t : State} (h : closedHoldsNothing s) (hs : t.sessions = s.sessions)
    (hi : ∀ r, s.isOpen r = false → (Idle s r → Idle t r) ∧ t.queues[r].handCount = s.queues[r].handCount) :
    closedHoldsNothing t := by
  rw [closedHoldsNothing_iff] at h ⊢
  intro r
  rw [hs]
  exact (h r).imp (hi r)

/-- The same where the session of one port changes too. -/
theorem closedHoldsNothing.of_port {s t : State} (p : Port) (h : closedHoldsNothing s)
    (hs : ∀ r, r ≠ p → t.sessions[r] = s.sessions[r])
    (hi : ∀ r, r ≠ p → (Idle s r → Idle t r) ∧ t.queues[r].handCount = s.queues[r].handCount)
    (hp : heldIn t.sessions[p].phase (Idle t p) t.queues[p].handCount) : closedHoldsNothing t := by
  rw [closedHoldsNothing_iff] at h ⊢
  intro r
  by_cases hr : r = p
  · exact hr ▸ hp
  · rw [hs r hr]
    exact (h r).imp fun _ => hi r hr

theorem ne_of_opened {s : State} {p r : Port} {c : Conn} (hp : s.sessions[p].phase = .opened c)
    (hr : s.isOpen r = false) : r ≠ p := by
  rintro rfl
  rw [isOpen_of_opened hp] at hr
  cases hr

theorem set_get_other {α : Type} {n : Nat} (v : Vector α n) {i j : Fin n} (x : α) (h : j ≠ i) :
    (v.set i x)[j] = v[j] := by
  rw [set_get, if_neg h]

theorem set_get_self {α : Type} {n : Nat} (v : Vector α n) (i : Fin n) (x : α) : (v.set i x)[i] = x := by
  rw [set_get, if_pos rfl]

/-- The queue of an OPEN port is no concern of R151. -/
theorem closedHoldsNothing.setQueue {s : State} (h : closedHoldsNothing s) {p : Port} {c : Conn}
    (hp : s.sessions[p].phase = .opened c) (q : Queue) : closedHoldsNothing (s.setQueue p q) := by
  refine closedHoldsNothing.of_share h rfl fun r hr => ?_
  have hq : (s.setQueue p q).queues[r] = s.queues[r] := set_get_other _ _ (ne_of_opened hp hr)
  rw [hq]
  exact ⟨fun hi => ⟨hq ▸ hi.urgent, hq ▸ hi.normal, hi.composing, hi.unread, hi.pulls, hi.claim⟩, rfl⟩

/-- A pool change that makes no port that is not OPEN a composer. -/
theorem closedHoldsNothing.setPool {s : State} (h : closedHoldsNothing s) {pl : Pool}
    (hpl : ∀ r, s.isOpen r = false → (∀ i : SlotIx, s.pool.slots[i].composedBy r = false) →
      ∀ i : SlotIx, pl.slots[i].composedBy r = false) : closedHoldsNothing (s.setPool pl) :=
  closedHoldsNothing.of_share h rfl fun r hr =>
    ⟨fun hi => ⟨hi.urgent, hi.normal, hpl r hr hi.composing, hi.unread, hi.pulls, hi.claim⟩, rfl⟩

/-- Another pull list whose requesters are those of the one before. -/
theorem closedHoldsNothing.setPulls {s : State} (h : closedHoldsNothing s) {pulls : List Pull}
    (hr : ∀ e' ∈ pulls, ∃ e ∈ s.pulls, e.requester = e'.requester) : closedHoldsNothing { s with pulls := pulls } := by
  refine closedHoldsNothing.of_share h rfl fun r _ => ⟨fun hi => { hi with pulls := fun e' he' => ?_ }, rfl⟩
  obtain ⟨e, he, hreq⟩ := hr e' he'
  exact hreq ▸ hi.pulls e he

theorem closedHoldsNothing.setClaim {s : State} (h : closedHoldsNothing s) {claim : Option Claim}
    (hc : ∀ r, s.isOpen r = false → (∀ c, s.claim = some c → c.holder ≠ r) → ∀ c, claim = some c → c.holder ≠ r) :
    closedHoldsNothing { s with claim := claim } :=
  closedHoldsNothing.of_share h rfl fun r hr => ⟨fun hi => { hi with claim := hc r hr hi.claim }, rfl⟩

/-! #### The requesters of the pull list -/

/-- Changes to the entries of the pull list leave their requesters. -/
theorem requesters_map {pulls : List Pull} {f : Pull → Pull} (hf : ∀ e, (f e).requester = e.requester) :
    ∀ e' ∈ pulls.map f, ∃ e ∈ pulls, e.requester = e'.requester := by
  intro e' he'
  obtain ⟨e, he, rfl⟩ := List.mem_map.1 he'
  exact ⟨e, he, (hf e).symm⟩

theorem expirePull_requester (p : Port) (b : BoardIx) (e : Pull) : (expirePull p b e).requester = e.requester := by
  unfold expirePull
  split <;> rfl

theorem commitPull_requester (s : State) (t : Table) (e : Pull) : (s.commitPull t e).requester = e.requester := by
  unfold State.commitPull
  split
  · split <;> rfl
  · rfl

theorem loseSupplier_requester (s : State) (p : Port) (e : Pull) : (s.loseSupplier p e).requester = e.requester := by
  unfold State.loseSupplier
  split <;> rfl

theorem atTick_requester (e : Pull) (now : Stamp) : (e.atTick now).requester = e.requester := by
  unfold Pull.atTick
  split <;> rfl

theorem satisfied_requester (b : BoardIx) (n : Seq) (e : Pull) :
    (if e.waitsOn b then e.ended (.satisfied n) else e).requester = e.requester := by
  split <;> rfl

/-! #### The boards' marks -/

theorem map_get {α β : Type} {n : Nat} (v : Vector α n) (f : α → β) (i : Fin n) : (v.map f)[i] = f v[i] := by simp

theorem ofFn_get {α : Type} {n : Nat} (f : Fin n → α) (i : Fin n) : (Vector.ofFn f)[i] = f i := by simp

theorem readBy_unread {bd : Board} {r : Port} (h : bd.unread[r] = false) (p : Port) :
    (bd.readBy p).unread[r] = false :=
  forall_set (v := bd.unread) (Q := fun q b => q = r → b = false) (fun _ hq => hq ▸ h) (fun _ => rfl) r rfl

theorem forget_unread (bd : Board) (p r : Port) :
    (bd.forget p).unread[r] = (bd.unread[r] && decide (r ≠ p)) := by
  simp only [Board.forget, set_get]
  split <;> simp_all

/-- A port that is not OPEN neither reads the board nor waits for it (R46, R115). -/
theorem updated_unread {s : State} {r : Port} (hi : Idle s r) (hr : s.isOpen r = false) (b : BoardIx) (d : PortSet)
    (slot : SlotIx) (n : Seq) :
    (s.boards[b].updated slot n
      (Vector.ofFn fun p : Port => (s.filterOpen d)[p] || s.waitsFor p b)).unread[r] = false := by
  have hw : s.waitsFor r b = false := by
    simp only [State.waitsFor, List.any_eq_false]
    intro e he
    simp [hi.pulls e he]
  have hf : (s.filterOpen d)[r] = false := by simp [State.filterOpen, hr]
  have hu := hi.unread b
  simp only [Fin.getElem_fin] at hu hf
  simp [Board.updated, hu, hf, hw]

/-! #### Every step -/

theorem idle_teardown (s : State) (p : Port) (d : Bool) (ph : Phase) : Idle ((s.teardown p d).setPhase p ph) p where
  urgent := by
    rw [State.setPhase_queues, State.teardown_queues, set_get_self]
    cases d <;> rfl
  normal := by
    rw [State.setPhase_queues, State.teardown_queues, set_get_self]
    cases d <;> rfl
  composing i := by
    rw [State.setPhase_pool, State.teardown_pool, after_slots, dropAll_composedBy, freeComposing_composedBy]
    simp
  unread b := by
    rw [State.setPhase_boards, State.teardown_boards, map_get, forget_unread]
    simp
  pulls e he := by
    rw [State.setPhase_pulls, State.teardown_pulls] at he
    obtain ⟨e', he', rfl⟩ := List.mem_map.1 he
    rw [loseSupplier_requester]
    simpa using (List.mem_filter.1 he').2
  claim c hc := by
    rw [State.setPhase_claim, State.teardown_claim] at hc
    simpa using (Option.mem_filter_iff.1 hc).2

/-- The teardown of another port's session takes nothing to a port. -/
theorem idle_teardown_other {s : State} {p r : Port} (hr : r ≠ p) (hi : Idle s r) (d : Bool) (ph : Phase) :
    Idle ((s.teardown p d).setPhase p ph) r where
  urgent := by
    rw [State.setPhase_queues, State.teardown_queues, set_get_other _ _ hr]
    exact hi.urgent
  normal := by
    rw [State.setPhase_queues, State.teardown_queues, set_get_other _ _ hr]
    exact hi.normal
  composing i := by
    rw [State.setPhase_pool, State.teardown_pool, after_slots, dropAll_composedBy, freeComposing_composedBy,
      hi.composing]
    rfl
  unread b := by
    have hu := hi.unread b
    rw [State.setPhase_boards, State.teardown_boards, map_get, forget_unread, hu]
    rfl
  pulls e he := by
    rw [State.setPhase_pulls, State.teardown_pulls] at he
    obtain ⟨e', he', rfl⟩ := List.mem_map.1 he
    rw [loseSupplier_requester]
    exact hi.pulls e' (List.mem_filter.1 he').1
  claim c hc := by
    rw [State.setPhase_claim, State.teardown_claim] at hc
    exact hi.claim c (Option.mem_filter_iff.1 hc).1

theorem handCount_freed (u n : List Entry) (o d x : Half) :
    (Queue.mk u n (Vector.replicate 4 none) o d x).handCount = 0 := by
  rw [Queue.handCount, handEntries_replicate_none]
  rfl

theorem setPhase_phase (s : State) (p : Port) (ph : Phase) : (s.setPhase p ph).sessions[p].phase = ph := by
  rw [State.setPhase_sessions, set_get_self]

theorem setPhase_other (s : State) {p r : Port} (hr : r ≠ p) (ph : Phase) :
    (s.setPhase p ph).sessions[r] = s.sessions[r] := by
  rw [State.setPhase_sessions, set_get_other _ _ hr]

/-- A teardown leaves its port nothing, but for a hand that is kept in CLOSING (R143, R145). -/
theorem closedHoldsNothing_torn {s : State} (h : closedHoldsNothing s) {p : Port} {d : Bool} {ph : Phase}
    (ht : Tears s p d ph) : closedHoldsNothing ((s.teardown p d).setPhase p ph) := by
  refine closedHoldsNothing.of_port p h (fun r hr => ?_) (fun r hr => ⟨fun hi => idle_teardown_other hr hi d ph, ?_⟩) ?_
  · rw [setPhase_other _ hr, State.teardown_sessions]
  · rw [State.setPhase_queues, State.teardown_queues, set_get_other _ _ hr]
  · have hi := idle_teardown s p d ph
    rw [setPhase_phase, State.setPhase_queues, State.teardown_queues, set_get_self]
    cases ht with
    | reset c hc => exact ⟨hi, handCount_freed _ _ _ _ _⟩
    | fence c hc => exact ⟨hi, handCount_freed _ _ _ _ _⟩
    | close c hc =>
      split
      · rename_i hn
        rw [if_pos hn] at hi
        exact ⟨hi, hn⟩
      · rename_i hn
        rw [if_neg hn] at hi
        exact ⟨hi, hn⟩

/-- What draining leaves of R151: an empty CLOSING hand ends the session (R147). -/
theorem closedHoldsNothing_drained {s : State} {p : Port}
    (h : ∀ r, r ≠ p → heldIn s.sessions[r].phase (Idle s r) s.queues[r].handCount)
    (hp : s.isOpen p = true ∨ (∃ c, s.sessions[p].phase = .closing c) ∧ Idle s p) :
    closedHoldsNothing (s.drained p) := by
  rw [closedHoldsNothing_iff]
  rcases s.drained_cases p with ⟨hd, hn⟩ | ⟨hd, h0, c, hc⟩ <;> rw [hd] <;> intro r
  · by_cases hr : r = p
    · subst hr
      rcases hp with ho | ⟨⟨c, hc⟩, hi⟩
      · exact heldIn_of_isOpen ho
      · rw [hc]
        exact ⟨hi, hn c hc⟩
    · exact h r hr
  · have hset : ∀ r, Idle s r → Idle ((s.setPhase p .closed).setLatched p .clear) r := fun r hi =>
      ⟨hi.urgent, hi.normal, hi.composing, hi.unread, hi.pulls, hi.claim⟩
    by_cases hr : r = p
    · subst hr
      rcases hp with ho | ⟨-, hi⟩
      · rw [State.isOpen, hc] at ho
        cases ho
      · rw [State.setLatched_sessions, setPhase_phase]
        exact ⟨hset r hi, h0⟩
    · rw [State.setLatched_sessions, setPhase_other _ hr]
      exact (h r hr).imp fun _ => ⟨hset r, rfl⟩

theorem reset_closedHoldsNothing (s : State) : closedHoldsNothing s.pinReset := by
  rw [closedHoldsNothing_iff]
  intro r
  have hidle : Idle s.pinReset r := by
    constructor <;> simp [State.reset, Queue.initial, Pool.initial, Board.blank, Slot.composedBy]
  have hphase : s.pinReset.sessions[r].phase = .closed := by simp [State.reset, Session.initial]
  have hhand : s.pinReset.queues[r].handCount = 0 := by
    have : s.pinReset.queues[r] = Queue.initial := by simp [State.reset]
    rw [this]
    exact handCount_freed _ _ _ _ _
  rw [hphase]
  exact ⟨hidle, hhand⟩

/-- Each effect gives to OPEN ports only, and takes everything but the hand from a port that leaves OPEN. -/
theorem closedHoldsNothing_preserved : Preserved (fun _ => True) closedHoldsNothing where
  heard s p _ h := by
    rw [closedHoldsNothing_iff] at h ⊢
    intro r
    have hi : Idle s r → Idle (s.hear p) r := fun hi =>
      ⟨hi.urgent, hi.normal, hi.composing, hi.unread, hi.pulls, hi.claim⟩
    by_cases hr : r = p
    · subst hr
      rw [hear_phase]
      exact ((h r).imp fun _ => ⟨hi, rfl⟩).mapConn _
    · rw [hear_phase_other s hr]
      exact (h r).imp fun _ => ⟨hi, rfl⟩
  opened s p a c _ h hp _ := by
    refine closedHoldsNothing.of_port p h (fun r hr => ?_)
      (fun r hr => ⟨fun hi => ⟨hi.urgent, hi.normal, hi.composing, hi.unread, hi.pulls, hi.claim⟩, rfl⟩) ?_
    · simp only [State.opened, State.setAttention_sessions, State.setSession_sessions, set_get_other _ _ hr]
    · simp only [State.opened, State.setAttention_sessions, State.setSession_sessions, set_get_self]
      trivial
  closed s p _ h hp := by
    refine closedHoldsNothing.of_port p h (fun r hr => setPhase_other s hr _)
      (fun r hr => ⟨fun hi => ⟨hi.urgent, hi.normal, hi.composing, hi.unread, hi.pulls, hi.claim⟩, rfl⟩) ?_
    have hpp := (closedHoldsNothing_iff s).1 h p
    rw [setPhase_phase]
    obtain ⟨hi, h0⟩ : Idle s p ∧ s.queues[p].handCount = 0 := by
      rcases hp with hp | hp <;> rw [hp] at hpp <;> exact hpp
    exact ⟨⟨hi.urgent, hi.normal, hi.composing, hi.unread, hi.pulls, hi.claim⟩, h0⟩
  torn s p d ph _ h ht := closedHoldsNothing_torn h ht
  handDiscarded s p c _ h hp := by
    have hi := idle_of_not_open h (r := p) (by rw [State.isOpen, hp]; rfl)
    have hidle : ∀ r, Idle s r → Idle ((s.discardHand p).setPhase p .closed) r := fun r hi => by
      refine ⟨?_, ?_, fun i => ?_, ?_, ?_, ?_⟩
      · simp only [State.setPhase_queues, State.discardHand_queues, set_get]
        split
        · rename_i hr
          exact hr ▸ hi.urgent
        · exact hi.urgent
      · simp only [State.setPhase_queues, State.discardHand_queues, set_get]
        split
        · rename_i hr
          exact hr ▸ hi.normal
        · exact hi.normal
      · rw [State.setPhase_pool, State.discardHand_pool, Pool.drop, after_slots, dropAll_composedBy]
        exact hi.composing i
      · rw [State.setPhase_boards, State.discardHand_boards]
        exact hi.unread
      · rw [State.setPhase_pulls, State.discardHand_pulls]
        exact hi.pulls
      · rw [State.setPhase_claim, State.discardHand_claim]
        exact hi.claim
    refine closedHoldsNothing.of_port p h (fun r hr => ?_) (fun r hr => ⟨hidle r, ?_⟩) ?_
    · rw [setPhase_other _ hr, State.discardHand_sessions]
    · rw [State.setPhase_queues, State.discardHand_queues, set_get_other _ _ hr]
    · rw [setPhase_phase, State.setPhase_queues, State.discardHand_queues, set_get_self]
      exact ⟨hidle p hi, handCount_freed _ _ _ _ _⟩
  reserved s p c i rest _ h hp _ _ := closedHoldsNothing.setPool h fun r hr hc =>
    set_not_composedBy hc (composing_other (ne_of_opened hp hr) _)
  written s p slot payload payload' _ h hs := closedHoldsNothing.setPool h fun r hr hc => by
    refine set_not_composedBy hc ?_
    have := hc slot
    rw [hs] at this
    exact this
  abandoned s p slot _ h hs := closedHoldsNothing.setPool h fun r hr hc => set_not_composedBy hc rfl
  acceptedQueued s x c payload lane policy _ h hp hs hn hf := by
    refine closedHoldsNothing.of_share h rfl fun r hr => ?_
    have hq : (s.acceptQueued x payload
        (s.deliveries (s.filterOpen (x.rule.destinations x.author)) policy
          { slot := x.slot, sequence := x.sequence, lane := lane, redelivery := 0 })).queues[r] = s.queues[r] := by
      rw [acceptQueued_queues, deliveries_queue_get, if_neg]
      simp [State.filterOpen, hr]
    rw [hq]
    refine ⟨fun hi => ⟨hq ▸ hi.urgent, hq ▸ hi.normal, fun i => ?_, hi.unread, hi.pulls, hi.claim⟩, rfl⟩
    rw [acceptQueued_pool, after_slots, dropAll_composedBy]
    exact set_not_composedBy hi.composing (slotAfter_composedBy _ _ _ _ _ _) i
  acceptedBoard s x c payload b _ h hp hs hn _ _ := by
    refine closedHoldsNothing.of_share h rfl fun r hr => ⟨fun hi => ?_, rfl⟩
    refine ⟨hi.urgent, hi.normal, fun i => ?_, ?_, fun e he => ?_, hi.claim⟩
    · rw [acceptBoard_pool, after_slots, dropAll_composedBy]
      exact set_not_composedBy hi.composing (slotAfter_composedBy _ _ _ _ _ _) i
    · rw [acceptBoard_boards]
      exact forall_set (Q := fun _ (bd : Board) => bd.unread[r] = false) hi.unread (updated_unread hi hr b _ _ _)
    · obtain ⟨e', he', hreq⟩ := requesters_map (satisfied_requester b x.sequence) e he
      exact hreq ▸ hi.pulls e' he'
  taken s p c k e lease _ h hp _ _ := closedHoldsNothing.setQueue h hp _
  entryEnds s p c k x d n a _ h hp hx _ := by
    have hi : ∀ r, Idle s r → Idle (entryEnded s p k x d n a) r := fun r hi => by
      refine ⟨?_, ?_, fun i => ?_, hi.unread, hi.pulls, hi.claim⟩
      · simp only [entryEnded, set_get]
        split
        · rename_i hr
          exact hr ▸ hi.urgent
        · exact hi.urgent
      · simp only [entryEnded, set_get]
        split
        · rename_i hr
          exact hr ▸ hi.normal
        · exact hi.normal
      · simp only [entryEnded, Pool.drop, after_slots, dropAll_composedBy]
        exact hi.composing i
    refine closedHoldsNothing_drained (fun r hr => ?_) ?_
    · refine ((closedHoldsNothing_iff s).1 h r).imp fun _ => ⟨hi r, ?_⟩
      simp only [entryEnded, set_get_other _ _ hr]
    · cases hph : s.sessions[p].phase with
      | opened c' => exact .inl (isOpen_of_opened (s := entryEnded s p k x d n a) hph)
      | closing c' =>
        exact .inr ⟨⟨c', hph⟩, hi p (idle_of_not_open h (by rw [State.isOpen, hph]; rfl))⟩
      | closed => rw [hph] at hp; cases hp
      | fenced => rw [hph] at hp; cases hp
  returned s p c k x n r _ h hp _ _ := closedHoldsNothing.setQueue h hp _
  renewed s p c k x lease _ h hp _ := closedHoldsNothing.setQueue h hp _
  queueCounted s p o d n h := by
    refine closedHoldsNothing.of_share h rfl fun r hr => ?_
    have hq : (s.setQueue p { s.queues[p] with overflow := o, discard := d, expiry := n }).queues[r] =
        { s.queues[r] with
          overflow := if r = p then o else s.queues[r].overflow
          discard := if r = p then d else s.queues[r].discard
          expiry := if r = p then n else s.queues[r].expiry } := by
      rw [State.setQueue_queues, set_get]
      by_cases hrp : r = p
      · simp [hrp]
      · simp [hrp]
    rw [hq]
    exact ⟨fun hi => ⟨by rw [hq]; exact hi.urgent, by rw [hq]; exact hi.normal, hi.composing, hi.unread, hi.pulls,
      hi.claim⟩, rfl⟩
  boardRead s p b _ h := closedHoldsNothing.of_share h rfl fun r hr => ⟨fun hi =>
    { hi with
      unread := forall_set (Q := fun _ (bd : Board) => bd.unread[r] = false) hi.unread (readBy_unread (hi.unread b) p) }, rfl⟩
  pulled s p c b q w _ h hp _ _ _ _ _ _ _ _ := by
    refine closedHoldsNothing.of_share h rfl fun r hr => ⟨fun hi => { hi with pulls := fun e he => ?_ }, rfl⟩
    rcases List.mem_append.1 he with he | he
    · exact hi.pulls e he
    · rw [List.mem_singleton.1 he]
      exact (ne_of_opened hp hr).symm
  pullRemoved s f _ h := closedHoldsNothing.setPulls h fun e he => ⟨e, (List.mem_filter.1 he).1, rfl⟩
  pullExpired s p b _ h := closedHoldsNothing.setPulls h (requesters_map (expirePull_requester p b))
  claimed s x _ h hx := closedHoldsNothing.setClaim h fun r hr hc c hcx => by
    cases hcx
    rcases hx with hx | ⟨y, hy, hxy⟩
    · rintro rfl
      rw [hx] at hr
      cases hr
    · exact hxy ▸ hc y hy
  unclaimed s _ h := closedHoldsNothing.setClaim h fun _ _ _ _ hc => by cases hc
  lapsed s x _ h _ := closedHoldsNothing.setClaim h fun _ _ _ _ hc => by cases hc
  commits s p x _ h _ _ := by
    refine closedHoldsNothing.of_share h rfl fun r hr => ⟨fun hi => ?_, rfl⟩
    refine ⟨hi.urgent, hi.normal, fun i => ?_, fun b => ?_, fun e he => ?_, fun c hc => by cases hc⟩
    · rw [State.commitTable_pool, Pool.drop, after_slots, dropAll_composedBy]
      exact hi.composing i
    · have hu := hi.unread b
      simp only [State.commitTable_boards, State.boardsAfter, Fin.getElem_fin, Vector.getElem_ofFn] at hu ⊢
      split
      · simp [Board.blank]
      · exact hu
    · obtain ⟨e', he', hreq⟩ := requesters_map (commitPull_requester s x.shadow) e he
      exact hreq ▸ hi.pulls e' he'
  examined s h := by
    rw [closedHoldsNothing_iff] at h ⊢
    intro r
    have hq : s.examineTimers.queues[r] = s.queues[r].atTick s.timeBase := by simp [State.examineTimers]
    have hs : s.examineTimers.sessions[r].phase = s.sessions[r].phase.mapConn fun c => c.atTick s.timeBase := by
      simp [State.examineTimers, Session.atTick]
    rw [hq, hs, handCount_atTick]
    refine ((h r).imp fun _ => ⟨fun hi => ⟨?_, ?_, hi.composing, hi.unread, fun e he => ?_, fun c hc => ?_⟩, rfl⟩).mapConn _
    · rw [hq]
      exact hi.urgent
    · rw [hq]
      exact hi.normal
    · obtain ⟨e', he', hreq⟩ := requesters_map (fun e => atTick_requester e s.timeBase) e he
      exact hreq ▸ hi.pulls e' he'
    · obtain ⟨c', hc', rfl⟩ := Option.map_eq_some_iff.1 hc
      exact hi.claim c' hc'
  reset := reset_closedHoldsNothing

theorem holderOpen_of_closedHoldsNothing {s : State} (h : closedHoldsNothing s) : holderOpen s := by
  intro c hc
  by_contra ho
  exact (idle_of_not_open h (Bool.eq_false_iff.2 ho)).claim c hc rfl

theorem composersOpen_of_closedHoldsNothing {s : State} (h : closedHoldsNothing s) : composersOpen s := by
  intro i p hp
  by_contra ho
  rw [(idle_of_not_open h (Bool.eq_false_iff.2 ho)).composing i] at hp
  cases hp

/-- Settles O53: R151 is kept effect by effect, and the claim holder and the composers are OPEN by it. -/
theorem closedPortsHoldNothing : Obligations.ClosedPortsHoldNothing := by
  rintro s t ⟨hs, -, -⟩ ht
  have h := closedHoldsNothing_preserved.step hs ht
  exact ⟨h, holderOpen_of_closedHoldsNothing h, composersOpen_of_closedHoldsNothing h⟩

end Sys2Proof.Proofs

/-! ### Proofs: the limits of a session -/

namespace Sys2Proof.Proofs

open Sys2Proof.Machine Sys2Proof.Safety Sys2Proof.Statements Sys2Proof.Laws

-- One proof after another: side by side they take more memory than a check has.
set_option Elab.async false

/-! #### How many COMPOSING slots a port owns (R11) -/

/-- How many of some slots a port composes. -/
def composes (slots : Vector Slot 256) (r : Port) : Nat := slots.toList.countP (Slot.composedBy r)

theorem composingCount_eq_composes (pl : Pool) (r : Port) : pl.composingCount r = composes pl.slots r := rfl

theorem composes_le {slots slots' : Vector Slot 256} {r : Port}
    (h : ∀ i : SlotIx, slots'[i].composedBy r = true → slots[i].composedBy r = true) :
    composes slots' r ≤ composes slots r := by
  unfold composes
  rw [toList_countP, toList_countP]
  exact List.countP_mono_left fun i _ => h i

theorem composes_zero {slots : Vector Slot 256} {r : Port} (h : ∀ i : SlotIx, slots[i].composedBy r = false) :
    composes slots r = 0 := by
  unfold composes
  rw [toList_countP, List.countP_eq_zero]
  exact fun i _ => by simp only [h, Bool.false_eq_true, not_false_eq_true]

theorem composes_dropAll (slots : Vector Slot 256) (refs : List SlotIx) (r : Port) :
    composes (dropAll slots refs) r ≤ composes slots r :=
  composes_le fun i h => by rwa [dropAll_composedBy] at h

/-- One slot replaced adds one composition at most. -/
theorem composes_set_le_succ (slots : Vector Slot 256) (slot : SlotIx) (sl : Slot) (r : Port) :
    composes (slots.set slot sl) r ≤ composes slots r + 1 := by
  unfold composes
  rw [Vector.toList_set, List.countP_set (by simp)]
  split <;> split <;> omega

/-- A slot replaced by one that the port composes no more than before. -/
theorem composes_set_le {slots : Vector Slot 256} {slot : SlotIx} {sl : Slot} {r : Port}
    (h : sl.composedBy r = true → slots[slot].composedBy r = true) : composes (slots.set slot sl) r ≤ composes slots r :=
  composes_le fun i hi => by
    rw [set_get] at hi
    split at hi
    · rename_i he
      exact he ▸ h hi
    · exact hi

/-! #### The limits of one port -/

/-- The parameters in force in range (R135, R137). -/
def inRange (c : Conn) : Prop :=
  c.lease ≠ 0#16 ∧ 1 ≤ c.depth ∧ c.depth ≤ 128 ∧ 1 ≤ c.composing ∧ c.composing ≤ 16 ∧ 1 ≤ c.redelivery ∧
    c.redelivery ≤ 7 ∧ ∀ t : Timer, c.silence = some t → 10 ≤ t.duration.toNat

/-- A queue within the parameters (R63, R74). -/
def fits (c : Conn) (q : Queue) : Prop := q.occupancy ≤ c.depth ∧ ∀ e ∈ entriesOf q, e.redelivery < c.redelivery

/-- The limits of one port, by its session state; `n` is the number of its COMPOSING slots. -/
def limited (ph : Phase) (q : Queue) (n : Nat) : Prop :=
  match ph with
  | .opened c => inRange c ∧ fits c q ∧ n ≤ c.composing
  | .closing c => inRange c ∧ fits c q
  | .closed => True
  | .fenced => True

/-- The limits of every port. -/
def sessionLimits (s : State) : Prop :=
  ∀ r : Port, limited s.sessions[r].phase s.queues[r] (s.pool.composingCount r)

theorem limited_iff (ph : Phase) (q : Queue) (n : Nat) :
    limited ph q n ↔
      (∀ c, ph.conn? = some c → inRange c) ∧ (∀ c, ph.conn? = some c → q.occupancy ≤ c.depth) ∧
        (∀ c, ph = .opened c → n ≤ c.composing) ∧
        ∀ c, ph.conn? = some c → ∀ e ∈ entriesOf q, e.redelivery < c.redelivery := by
  cases ph with
  | opened c =>
    simp only [limited, Phase.conn?, fits, Option.some.injEq, forall_eq', Phase.opened.injEq]
    tauto
  | closing c => simp [limited, Phase.conn?, fits]
  | closed => simp [limited, Phase.conn?]
  | fenced => simp [limited, Phase.conn?]

theorem sessionLimits_iff (s : State) :
    sessionLimits s ↔ paramsLegal s ∧ occupancyBounded s ∧ composingBounded s ∧ redeliveryBelowLimit s := by
  simp only [sessionLimits, limited_iff, forall_and, paramsLegal, occupancyBounded, composingBounded,
    redeliveryBelowLimit, inRange]

/-- Some of the entries of a queue that fits fit too. -/
theorem fits.of_subperm {c : Conn} {q q' : Queue} (h : fits c q) (hs : (entriesOf q').Subperm (entriesOf q)) :
    fits c q' := by
  refine ⟨?_, fun e he => h.2 e (hs.subset he)⟩
  rw [← length_entriesOf]
  exact hs.length_le.trans (length_entriesOf q ▸ h.1)

theorem limited.imp {ph : Phase} {q q' : Queue} {n n' : Nat} (h : limited ph q n)
    (hq : ∀ c, ph.conn? = some c → inRange c → fits c q → fits c q') (hn : n' ≤ n) : limited ph q' n' := by
  cases ph with
  | opened c => exact ⟨h.1, hq c rfl h.1 h.2.1, hn.trans h.2.2⟩
  | closing c => exact ⟨h.1, hq c rfl h.1 h.2⟩
  | closed => trivial
  | fenced => trivial

theorem limited.of_subperm {ph : Phase} {q q' : Queue} {n n' : Nat} (h : limited ph q n)
    (hq : (entriesOf q').Subperm (entriesOf q)) (hn : n' ≤ n) : limited ph q' n' :=
  h.imp (fun _ _ _ hf => hf.of_subperm hq) hn

/-- Parameters whose silence timer was set anew or marked due are the parameters they were (R140, R156). -/
theorem limited.mapConn {ph : Phase} {q : Queue} {n : Nat} (h : limited ph q n) {f : Timer → Timer}
    (hf : ∀ t, (f t).duration = t.duration) :
    limited (ph.mapConn fun c => { c with silence := c.silence.map f }) q n := by
  have hr : ∀ c, inRange c → inRange { c with silence := c.silence.map f } := by
    rintro c ⟨h1, h2, h3, h4, h5, h6, h7, h8⟩
    refine ⟨h1, h2, h3, h4, h5, h6, h7, fun t ht => ?_⟩
    obtain ⟨t', ht', rfl⟩ := Option.map_eq_some_iff.1 ht
    rw [hf]
    exact h8 t' ht'
  cases ph with
  | opened c => exact ⟨hr c h.1, h.2⟩
  | closing c => exact ⟨hr c h.1, h.2⟩
  | closed => trivial
  | fenced => trivial

/-! #### The parameters OPEN puts in force (R137) -/

theorem silenceInForce_least {off : Byte} {limit l : Half} (h : silenceInForce off limit = some (some l)) :
    10 ≤ l.toNat := by
  unfold silenceInForce at h
  split at h
  · split at h <;> cases h
  · split at h
    · cases h
      decide
    · split at h
      · cases h
      · cases h
        omega
  · cases h

theorem limitInForce_range {d m n : Nat} {v : Byte} (hd : 1 ≤ d) (hm : d ≤ m) (h : limitInForce d m v = some n) :
    1 ≤ n ∧ n ≤ m := by
  unfold limitInForce at h
  split at h
  · cases h
    exact ⟨hd, hm⟩
  · rename_i hv
    split at h
    · cases h
      refine ⟨Nat.pos_of_ne_zero fun h0 => hv (BitVec.eq_of_toNat_eq h0), ‹_›⟩
    · cases h

theorem leaseInForce_ne (v : Half) : leaseInForce v ≠ 0#16 := by
  unfold leaseInForce
  split
  · decide
  · assumption

theorem inRange_of_connOf {a : OpenArgs} {now : Stamp} {c : Conn} (h : Machine.connOf a now = some c) : inRange c := by
  unfold Machine.connOf at h
  split at h
  · rename_i silence depth composing redelivery hs hd hc hr
    cases h
    obtain ⟨hd1, hd2⟩ := limitInForce_range (by decide) (by decide) hd
    obtain ⟨hc1, hc2⟩ := limitInForce_range (by decide) (by decide) hc
    obtain ⟨hr1, hr2⟩ := limitInForce_range (by decide) (by decide) hr
    refine ⟨leaseInForce_ne _, hd1, hd2, hc1, hc2, hr1, hr2, fun t ht => ?_⟩
    obtain ⟨l, hl, rfl⟩ := Option.map_eq_some_iff.1 ht
    exact silenceInForce_least (hs.trans (congrArg some hl))
  · cases h

/-! #### Delivery within the limits (R49, R63) -/

theorem fits.append {c : Conn} {q : Queue} {e : Entry} (h : fits c q) (hroom : q.occupancy < c.depth)
    (he : e.redelivery < c.redelivery) : fits c (q.append e) := by
  have hp := entriesOf_append q e
  refine ⟨?_, fun x hx => ?_⟩
  · rw [← length_entriesOf, hp.length_eq, List.length_cons, length_entriesOf]
    exact hroom
  · rcases List.mem_cons.1 (hp.mem_iff.1 hx) with rfl | hx
    · exact he
    · exact h.2 x hx

/-- A delivery never takes a queue above its depth limit: it appends below the limit or after an eviction. -/
theorem fits.deliver {c : Conn} {q : Queue} {e : Entry} (h : fits c q) (policy : FullPolicy)
    (he : e.redelivery < c.redelivery) : fits c (q.deliver (decide (q.occupancy = c.depth)) policy e).queue := by
  rcases deliver_cases q (decide (q.occupancy = c.depth)) policy e with hd | ⟨hf, hd⟩ | ⟨old, q', -, hev, hd⟩ <;>
    rw [hd]
  · exact h
  · exact h.append (lt_of_le_of_ne h.1 (of_decide_eq_false hf)) he
  · have hp := entriesOf_evict hev
    refine fits.append (h.of_subperm (List.subperm_cons_self.trans hp.symm.subperm)) ?_ he
    have hlen := hp.length_eq
    rw [List.length_cons, length_entriesOf, length_entriesOf] at hlen
    exact lt_of_lt_of_le (Nat.lt_of_succ_le hlen.ge) h.1

/-- A hand entry that goes back below the redelivery limit (R74). -/
theorem fits.putBack {c : Conn} {q : Queue} {k : Handle} {x : HandEntry} (h : fits c q) (hx : q.hand[k] = some x)
    {r : Nat} (hr : r < c.redelivery) : fits c ((q.freeHandle k).putBack { x.entry with redelivery := r }) := by
  have hq := entriesOf_freeHandle hx
  have hp := entriesOf_putBack (q.freeHandle k) { x.entry with redelivery := r }
  refine ⟨?_, fun e he => ?_⟩
  · rw [← length_entriesOf, hp.length_eq, List.length_cons, ← List.length_cons (a := x.entry), ← hq.length_eq,
      length_entriesOf]
    exact h.1
  · rcases List.mem_cons.1 (hp.mem_iff.1 he) with rfl | he
    · exact hr
    · exact h.2 e (hq.mem_iff.2 (List.mem_cons_of_mem _ he))

theorem entriesOf_subperm_freeHandle {q : Queue} {k : Handle} {x : HandEntry} (h : q.hand[k] = some x) :
    (entriesOf (q.freeHandle k)).Subperm (entriesOf q) :=
  List.subperm_cons_self.trans (entriesOf_freeHandle h).symm.subperm

theorem entriesOf_flushed (q : Queue) : (entriesOf { q with urgent := [], normal := [] }).Subperm (entriesOf q) :=
  (List.sublist_append_right _ _).subperm

theorem entriesOf_idle {q : Queue} (hu : q.urgent = []) (hn : q.normal = []) (h0 : q.handCount = 0) :
    entriesOf q = [] := by
  rw [← List.length_eq_zero_iff, length_entriesOf, Queue.occupancy, hu, hn, h0]
  rfl

theorem fits_of_empty {c : Conn} {q : Queue} (h : entriesOf q = []) : fits c q := by
  refine ⟨?_, fun e he => ?_⟩
  · rw [← length_entriesOf, h]
    exact Nat.zero_le _
  · rw [h] at he
    cases he

/-! #### Every step -/

/-- A change that leaves the sessions, under which no port holds more. -/
theorem sessionLimits.of_less {s t : State} (h : sessionLimits s) (hs : t.sessions = s.sessions)
    (hq : ∀ (r : Port) (c : Conn), s.sessions[r].phase.conn? = some c → inRange c → fits c s.queues[r] → fits c t.queues[r])
    (hc : ∀ r, t.pool.composingCount r ≤ s.pool.composingCount r) : sessionLimits t := by
  intro r
  rw [hs]
  exact (h r).imp (hq r) (hc r)

theorem sessionLimits.setQueue {s : State} (h : sessionLimits s) {p : Port} {q : Queue}
    (hq : ∀ c, s.sessions[p].phase.conn? = some c → fits c s.queues[p] → fits c q) :
    sessionLimits (s.setQueue p q) := by
  refine h.of_less rfl (fun r c hc _ hf => ?_) fun _ => le_rfl
  rw [State.setQueue_queues]
  by_cases hr : r = p
  · subst hr
    rw [set_get_self]
    exact hq c hc hf
  · rw [set_get_other _ _ hr]
    exact hf

theorem sessionLimits.setPool {s : State} (h : sessionLimits s) {pl : Pool}
    (hc : ∀ r, pl.composingCount r ≤ s.pool.composingCount r) : sessionLimits (s.setPool pl) :=
  h.of_less rfl (fun _ _ _ _ hf => hf) hc

/-- The same where the session of one port changes too. -/
theorem sessionLimits.of_port {s t : State} (p : Port) (h : sessionLimits s)
    (hs : ∀ r, r ≠ p → t.sessions[r] = s.sessions[r]) (hq : ∀ r, r ≠ p → t.queues[r] = s.queues[r])
    (hc : ∀ r, t.pool.composingCount r ≤ s.pool.composingCount r)
    (hp : limited t.sessions[p].phase t.queues[p] (t.pool.composingCount p)) : sessionLimits t := by
  intro r
  by_cases hr : r = p
  · exact hr ▸ hp
  · rw [hs r hr, hq r hr]
    exact (h r).imp (fun _ _ _ hf => hf) (hc r)

theorem teardown_composes (s : State) (p : Port) (d : Bool) (ph : Phase) (r : Port) :
    ((s.teardown p d).setPhase p ph).pool.composingCount r ≤ s.pool.composingCount r := by
  rw [State.setPhase_pool, State.teardown_pool, composingCount_eq_composes, after_slots]
  refine (composes_dropAll _ _ _).trans (composes_le fun i hi => ?_)
  rw [freeComposing_composedBy, Bool.and_eq_true] at hi
  exact hi.1

theorem drop_composes (pl : Pool) (refs : List SlotIx) (r : Port) :
    (pl.drop refs).composingCount r ≤ pl.composingCount r := composes_dropAll _ _ _

theorem isFull_of_opened {s : State} {p : Port} {c : Conn} (h : s.sessions[p].phase = .opened c) :
    s.isFull p = decide (s.queues[p].occupancy = c.depth) := by
  unfold State.isFull
  rw [h]

theorem filterOpen_get (s : State) (d : PortSet) (r : Port) : (s.filterOpen d)[r] = (d[r] && s.isOpen r) := by
  rw [State.filterOpen, ofFn_get]

theorem opened_of_isOpen {s : State} {r : Port} (h : s.isOpen r = true) : ∃ c, s.sessions[r].phase = .opened c := by
  unfold State.isOpen Phase.isOpen at h
  split at h
  · exact ⟨_, ‹_›⟩
  · cases h

/-- A submission leaves every queue within its limits (R49 to R53). -/
theorem fits_deliveries {s : State} {r : Port} {c : Conn} (hc : s.sessions[r].phase.conn? = some c) (hr : inRange c)
    (hf : fits c s.queues[r]) (d : PortSet) (policy : FullPolicy) {e : Entry} (he : e.redelivery = 0) :
    fits c ((s.deliveries (s.filterOpen d) policy e).map fun x => x.queue)[r] := by
  rw [deliveries_queue_get, filterOpen_get]
  split
  · rename_i hd
    obtain ⟨c', hc'⟩ := opened_of_isOpen (Bool.and_eq_true_iff.1 hd).2
    rw [hc'] at hc
    cases hc
    rw [isFull_of_opened hc']
    obtain ⟨-, -, -, -, -, hred, -⟩ := hr
    exact hf.deliver policy (by omega)
  · exact hf

theorem slotAfter_composes (s : State) (x : Posting) (payload : Payload) (stamp : Stamp) (kind : Kind) (n : Nat)
    (refs : List SlotIx) (r : Port) :
    composes (dropAll (s.pool.slots.set x.slot (x.slotAfter payload stamp kind n)) refs) r ≤
      composes s.pool.slots r := by
  refine (composes_dropAll _ _ _).trans (composes_set_le fun hc => ?_)
  rw [slotAfter_composedBy] at hc
  cases hc

theorem drained_limits {s : State} (h : sessionLimits s) (p : Port) : sessionLimits (s.drained p) := by
  rcases s.drained_cases p with ⟨hd, -⟩ | ⟨hd, -⟩ <;> rw [hd]
  · exact h
  · refine sessionLimits.of_port p h (fun r hr => ?_) (fun _ _ => rfl) (fun _ => le_rfl) ?_
    · rw [State.setLatched_sessions, setPhase_other _ hr]
    · rw [State.setLatched_sessions, setPhase_phase]
      trivial

theorem entryEnded_limits {s : State} (h : sessionLimits s) {p : Port} {k : Handle} {x : HandEntry}
    (hx : s.queues[p].hand[k] = some x) (d n : Half) (a : PerPort Attention) :
    sessionLimits (entryEnded s p k x d n a) := by
  refine h.of_less rfl (fun r c _ _ hf => ?_) fun r => drop_composes _ _ r
  simp only [entryEnded]
  by_cases hr : r = p
  · subst hr
    rw [set_get_self]
    exact hf.of_subperm (entriesOf_subperm_freeHandle hx)
  · rw [set_get_other _ _ hr]
    exact hf

theorem reset_sessionLimits (s : State) : sessionLimits s.pinReset := by
  intro r
  have hphase : s.pinReset.sessions[r].phase = .closed := by simp [State.reset, Session.initial]
  rw [hphase]
  trivial

/-- Each effect puts parameters in range in force, or leaves every port with as much or less. A port opens empty, which
is where R151 is used. -/
theorem sessionLimits_preserved : Preserved closedHoldsNothing sessionLimits where
  heard s p _ h := by
    intro r
    by_cases hr : r = p
    · subst hr
      rw [hear_phase]
      exact (h r).mapConn fun t => rfl
    · rw [hear_phase_other s hr]
      exact h r
  opened s p a c hP h hp hc := by
    refine sessionLimits.of_port p h (fun r hr => ?_) (fun _ _ => rfl) (fun _ => le_rfl) ?_
    · simp only [State.opened, State.setAttention_sessions, State.setSession_sessions, set_get_other _ _ hr]
    · have hh := (closedHoldsNothing_iff s).1 hP p
      rw [hp] at hh
      obtain ⟨hi, h0⟩ := hh
      simp only [State.opened, State.setAttention_sessions, State.setSession_sessions, set_get_self]
      refine ⟨inRange_of_connOf hc, fits_of_empty (entriesOf_idle hi.urgent hi.normal h0), ?_⟩
      exact (composes_zero hi.composing).trans_le (Nat.zero_le _)
  closed s p _ h _ := by
    refine sessionLimits.of_port p h (fun r hr => setPhase_other s hr _) (fun _ _ => rfl) (fun _ => le_rfl) ?_
    rw [setPhase_phase]
    trivial
  torn s p d ph _ h ht := by
    refine sessionLimits.of_port p h (fun r hr => ?_) (fun r hr => ?_) (teardown_composes s p d ph) ?_
    · rw [setPhase_other _ hr, State.teardown_sessions]
    · rw [State.setPhase_queues, State.teardown_queues, set_get_other _ _ hr]
    · rw [setPhase_phase, State.setPhase_queues, State.teardown_queues, set_get_self]
      cases ht with
      | reset c hc => trivial
      | fence c hc => trivial
      | close c hc =>
        have hp := h p
        rw [hc] at hp
        split
        · trivial
        · exact ⟨hp.1, hp.2.1.of_subperm (entriesOf_flushed _)⟩
  handDiscarded s p c _ h hp := by
    refine sessionLimits.of_port p h (fun r hr => ?_) (fun r hr => ?_) (fun r => ?_) ?_
    · rw [setPhase_other _ hr, State.discardHand_sessions]
    · rw [State.setPhase_queues, State.discardHand_queues, set_get_other _ _ hr]
    · rw [State.setPhase_pool, State.discardHand_pool]
      exact drop_composes _ _ _
    · rw [setPhase_phase]
      trivial
  reserved s p c i rest _ h hp hn _ := by
    intro r
    have hr := h r
    by_cases hrp : r = p
    · subst hrp
      rw [hp] at hr
      rw [State.setPool_sessions, hp]
      refine ⟨hr.1, hr.2.1, ?_⟩
      have hlt : s.pool.composingCount r < c.composing := lt_of_le_of_ne hr.2.2 hn
      exact (composes_set_le_succ _ _ _ _).trans hlt
    · refine hr.imp (fun _ _ _ hf => hf) (composes_set_le fun hc => ?_)
      rw [composing_other hrp] at hc
      cases hc
  written s p slot payload payload' _ h hs := h.setPool fun r => composes_set_le fun hc => by
    rw [hs]
    exact hc
  abandoned s p slot _ h hs := h.setPool fun r => composes_set_le fun hc => by cases hc
  acceptedQueued s x c payload lane policy _ h _ _ _ _ :=
    sessionLimits.of_less h rfl (fun r c hc hr hf => fits_deliveries hc hr hf _ policy rfl)
      fun r => slotAfter_composes s x _ _ _ _ _ r
  acceptedBoard s x c payload b _ h _ _ _ _ _ :=
    sessionLimits.of_less h rfl (fun _ _ _ _ hf => hf) fun r => slotAfter_composes s x _ _ _ _ _ r
  taken s p c k e lease _ h _ hk he := h.setQueue fun _ _ hf => hf.of_subperm (entriesOf_takeInto lease hk he).subperm
  entryEnds s p c k x d n a _ h _ hx _ := by
    exact drained_limits (entryEnded_limits h hx d n a) p
  returned s p c k x n r _ h hp hx hr := h.setQueue fun c' hc' hf => by
    rw [hp] at hc'
    cases hc'
    have hlt : r < c.redelivery := by
      rcases hr with rfl | hr
      · exact hf.2 _ ((entriesOf_freeHandle hx).mem_iff.2 List.mem_cons_self)
      · exact hr
    exact fits.putBack (q := { s.queues[p] with expiry := n }) hf hx hlt
  renewed s p c k x lease _ h _ hx := h.setQueue fun _ _ hf => hf.of_subperm (entriesOf_renewed hx lease).subperm
  queueCounted s p o d n h := h.setQueue fun _ _ hf => hf
  commits s p x _ h _ _ := sessionLimits.of_less h rfl (fun _ _ _ _ hf => hf) fun r => drop_composes _ _ r
  examined s h := by
    intro r
    have hq : s.examineTimers.queues[r] = s.queues[r].atTick s.timeBase := by simp [State.examineTimers]
    have hs : s.examineTimers.sessions[r].phase = s.sessions[r].phase.mapConn fun c => c.atTick s.timeBase := by
      simp [State.examineTimers, Session.atTick]
    rw [hq, hs]
    exact ((h r).of_subperm (by rw [entriesOf_atTick]) le_rfl).mapConn fun t => rfl
  reset := reset_sessionLimits

/-- Settles O54: the limits are kept effect by effect, under R151, which every step keeps too. -/
theorem sessionLimitsAreKept : Obligations.SessionLimitsAreKept := by
  intro s t hP hs ht
  rw [← sessionLimits_iff] at hs ⊢
  exact closedHoldsNothing_preserved.stepUnder sessionLimits_preserved hP hs ht

end Sys2Proof.Proofs

/-! ### Proofs: the pull list -/

namespace Sys2Proof.Proofs

open Sys2Proof.Machine Sys2Proof.Safety Sys2Proof.Statements Sys2Proof.Laws

-- One proof after another: side by side they take more memory than a check has.
set_option Elab.async false

/-! #### The bounds, as a matter of requesters and boards alone (R101) -/

/-- Requester and board of each entry, in list order. -/
def keysOf (pulls : List Pull) : List (Port × BoardIx) := pulls.map fun e => (e.requester, e.board)

/-- R101, of requesters and boards. -/
def keysBounded (keys : List (Port × BoardIx)) : Prop :=
  keys.length ≤ 12 ∧ (∀ p : Port, (keys.countP fun k => decide (k.1 = p)) ≤ 4) ∧ keys.Nodup

theorem pullsBounded_iff (s : State) : pullsBounded s ↔ keysBounded (keysOf s.pulls) := by
  simp only [pullsBounded, keysBounded, keysOf, List.length_map, List.countP_map, List.Nodup, List.pairwise_map, Ne,
    Prod.mk.injEq]
  rfl

theorem keysBounded.sublist {keys keys' : List (Port × BoardIx)} (h : keysBounded keys) (hs : keys'.Sublist keys) :
    keysBounded keys' :=
  ⟨hs.length_le.trans h.1, fun p => (hs.countP_le).trans (h.2.1 p), h.2.2.sublist hs⟩

theorem keysBounded.concat {keys : List (Port × BoardIx)} (h : keysBounded keys) {p : Port} {b : BoardIx}
    (hlen : keys.length < 12) (hcount : (keys.countP fun k => decide (k.1 = p)) < 4) (hnew : (p, b) ∉ keys) :
    keysBounded (keys ++ [(p, b)]) := by
  refine ⟨by simpa using hlen, fun r => ?_, ?_⟩
  · rw [List.countP_append, List.countP_singleton]
    have hr := h.2.1 r
    by_cases hpr : p = r
    · subst hpr
      simpa using hcount
    · simpa [hpr] using hr
  · rw [List.nodup_append]
    exact ⟨h.2.2, List.nodup_singleton _, fun a ha c hc e => hnew (by rw [List.mem_singleton.1 hc] at e; exact e ▸ ha)⟩

/-! #### Changes to single entries -/

/-- A change to entries that keeps requester and board and makes none PENDING. -/
def EndsOnly (f : Pull → Pull) : Prop :=
  ∀ e, (f e).requester = e.requester ∧ (f e).board = e.board ∧ ((f e).isWaiting = true → e.isWaiting = true)

theorem keysOf_map {f : Pull → Pull} (hf : EndsOnly f) (pulls : List Pull) : keysOf (pulls.map f) = keysOf pulls := by
  rw [keysOf, keysOf, List.map_map]
  refine List.map_congr_left fun e _ => ?_
  obtain ⟨hr, hb, -⟩ := hf e
  simp only [Function.comp, hr, hb]

theorem endsOnly_ite (o : PullOutcome) (c : Pull → Bool) : EndsOnly fun e => if c e then e.ended o else e := by
  intro e
  dsimp only
  split
  · exact ⟨rfl, rfl, nofun⟩
  · exact ⟨rfl, rfl, id⟩

theorem endsOnly_expirePull (p : Port) (b : BoardIx) : EndsOnly (expirePull p b) := endsOnly_ite .expired _

theorem endsOnly_loseSupplier (s : State) (p : Port) : EndsOnly (s.loseSupplier p) := endsOnly_ite .supplierLost _

theorem endsOnly_commitPull (s : State) (t : Table) : EndsOnly (s.commitPull t) := by
  intro e
  unfold State.commitPull
  split
  · split
    · exact ⟨rfl, rfl, nofun⟩
    · exact ⟨rfl, rfl, id⟩
  · exact ⟨rfl, rfl, id⟩

theorem endsOnly_atTick (now : Stamp) : EndsOnly fun e => e.atTick now := by
  intro e
  dsimp only
  unfold Pull.atTick
  split
  · exact ⟨rfl, rfl, fun _ => by simp [Pull.isWaiting, *]⟩
  · exact ⟨rfl, rfl, id⟩

/-! #### The whole list -/

/-- What R101 asks of a PENDING entry on a board, given the active table's boards and who is OPEN. -/
def suppliedBy (s : State) (p : Port) (b : BoardIx) : Prop :=
  s.table.boards[b].enabled = true ∧
    ∃ q : Port, s.table.boards[b].supplier = some q ∧ s.isOpen q = true ∧ q ≠ p

/-- R101 of the whole pull list. -/
def pullsLegal (s : State) : Prop :=
  keysBounded (keysOf s.pulls) ∧ ∀ e ∈ s.pulls, e.isWaiting = true → suppliedBy s e.requester e.board

theorem pullsLegal_iff (s : State) : pullsLegal s ↔ pullsBounded s ∧ pullsSupplied s := by
  rw [pullsBounded_iff]
  rfl

/-- The pull list is legal where those OPEN before still are. -/
theorem pullsLegal.of_open {s t : State} (h : pullsLegal s) (hp : t.pulls = s.pulls) (ht : t.table = s.table)
    (ho : ∀ q, s.isOpen q = true → t.isOpen q = true) : pullsLegal t := by
  obtain ⟨hb, hs⟩ := h
  refine ⟨hp ▸ hb, fun e he hw => ?_⟩
  obtain ⟨hen, q, hq, hqo, hne⟩ := hs e (hp ▸ he) hw
  rw [suppliedBy, ht]
  exact ⟨hen, q, hq, ho q hqo, hne⟩

theorem pullsLegal.map {s : State} (h : pullsLegal s) {f : Pull → Pull} (hf : EndsOnly f) :
    pullsLegal { s with pulls := s.pulls.map f } := by
  obtain ⟨hb, hs⟩ := h
  refine ⟨by rw [keysOf_map hf]; exact hb, fun e' he' hw => ?_⟩
  obtain ⟨e, he, rfl⟩ := List.mem_map.1 he'
  obtain ⟨hr, hbd, hwait⟩ := hf e
  rw [hr, hbd]
  exact hs e he (hwait hw)

theorem pullsLegal.filter {s : State} (h : pullsLegal s) (f : Pull → Bool) :
    pullsLegal { s with pulls := s.pulls.filter f } :=
  ⟨h.1.sublist (List.filter_sublist.map _), fun e he => h.2 e (List.mem_filter.1 he).1⟩

/-- The requester has no entry on the board, PENDING or DONE. -/
theorem key_not_mem {s : State} {p : Port} {b : BoardIx} (hw : s.hasWaiting p b = false) (hd : s.hasDone p b = false) :
    (p, b) ∉ keysOf s.pulls := by
  intro h
  obtain ⟨e, he, hk⟩ := List.mem_map.1 h
  obtain ⟨hr, hb⟩ := Prod.mk.inj hk
  have hw' := List.any_eq_false.1 hw e he
  have hd' := List.any_eq_false.1 hd e he
  cases hwait : e.isWaiting <;> simp [Pull.isFor, hr, hb, hwait] at hw' hd'

theorem pullsLegal.concat {s : State} (h : pullsLegal s) {p : Port} {b : BoardIx} {w : Timer}
    (hs : suppliedBy s p b) (hw : s.hasWaiting p b = false) (hd : s.hasDone p b = false) (hc : s.pullCount p < 4)
    (hl : s.pulls.length < 12) :
    pullsLegal { s with pulls := s.pulls ++ [{ requester := p, board := b, state := .waiting w }] } := by
  refine ⟨?_, fun e he hwait => ?_⟩
  · rw [keysOf, List.map_append]
    refine h.1.concat (by simpa [keysOf] using hl) ?_ (key_not_mem hw hd)
    rw [keysOf, List.countP_map]
    exact hc
  · rcases List.mem_append.1 he with he | he
    · exact h.2 e he hwait
    · rw [List.mem_singleton.1 he]
      exact hs

/-! #### Every step -/

/-- A session that was not OPEN may end without any other port's session changing. -/
theorem isOpen_setPhase_of_not_open {s : State} {p : Port} (hp : s.isOpen p = false) (ph : Phase) {q : Port}
    (hq : s.isOpen q = true) : (s.setPhase p ph).isOpen q = true := by
  rw [setPhase_isOpen, if_neg]
  · exact hq
  · rintro rfl
    rw [hp] at hq
    cases hq

theorem isOpen_drained {s : State} {p q : Port} (hq : s.isOpen q = true) : (s.drained p).isOpen q = true := by
  rcases s.drained_cases p with ⟨hd, -⟩ | ⟨hd, -, c, hc⟩ <;> rw [hd]
  · exact hq
  · exact isOpen_setPhase_of_not_open (by rw [State.isOpen, hc]; rfl) .closed hq

theorem isOpen_opened {s : State} {p q : Port} {c : Conn} (hq : s.isOpen q = true) : (s.opened p c).isOpen q = true := by
  simp only [State.isOpen, State.opened, State.setAttention_sessions, State.setSession_sessions, set_get]
  split
  · rfl
  · exact hq

theorem isOpen_examineTimers (s : State) (q : Port) : s.examineTimers.isOpen q = s.isOpen q := by
  have hs : s.examineTimers.sessions[q].phase = s.sessions[q].phase.mapConn fun c => c.atTick s.timeBase := by
    simp [State.examineTimers, Session.atTick]
  rw [State.isOpen, State.isOpen, hs]
  cases s.sessions[q].phase <;> rfl

/-- What is PENDING once a supplier is lost has another supplier (R108). -/
theorem loseSupplier_supplier (s : State) (q : Port) (e : Pull) (b : BoardIx) (hb : (s.loseSupplier q e).board = b)
    (hw : (s.loseSupplier q e).isWaiting = true) : s.table.boards[b].supplier ≠ some q := by
  obtain ⟨-, hboard, hwait⟩ := endsOnly_loseSupplier s q e
  obtain rfl : e.board = b := hboard.symm.trans hb
  intro hq
  have hlost : s.loseSupplier q e = e.ended .supplierLost := if_pos (by rw [hwait hw, hq]; simp)
  rw [hlost] at hw
  cases hw

/-- A port whose session ends supplies no PENDING pull from then on (R108). -/
theorem pullsLegal_torn {s : State} (h : pullsLegal s) (p : Port) (d : Bool) (ph : Phase) :
    pullsLegal ((s.teardown p d).setPhase p ph) := by
  obtain ⟨hb, hs⟩ := (h.filter fun e => decide (e.requester ≠ p)).map (endsOnly_loseSupplier s p)
  refine ⟨?_, fun e' he' hw => ?_⟩
  · rw [State.setPhase_pulls, State.teardown_pulls]
    exact hb
  · rw [State.setPhase_pulls, State.teardown_pulls] at he'
    obtain ⟨hen, q, hq, hqo, hne⟩ := hs e' he' hw
    rw [suppliedBy, State.setPhase_table, State.teardown_table]
    refine ⟨hen, q, hq, ?_, hne⟩
    rw [setPhase_isOpen, if_neg]
    · rw [State.isOpen, State.teardown_sessions]
      exact hqo
    · rintro rfl
      obtain ⟨e, -, rfl⟩ := List.mem_map.1 he'
      exact loseSupplier_supplier s q e _ rfl hw hq

/-- A PENDING pull after a commit has a supplier in the new table (R109). -/
theorem suppliedBy_of_commitEnds {s : State} {t : Table} {e : Pull} (h : s.commitEnds t e = none) :
    t.boards[e.board].enabled = true ∧
      ∃ q : Port, t.boards[e.board].supplier = some q ∧ s.isOpen q = true ∧ q ≠ e.requester := by
  simp only [State.commitEnds] at h
  split at h
  · cases h
  · rename_i hen
    split at h
    · cases h
    · rename_i q hq
      split at h
      · cases h
      · rename_i hne
        split at h
        · exact ⟨by simpa using hen, q, hq, ‹_›, hne⟩
        · cases h

theorem pullsLegal_commit {s : State} (h : pullsLegal s) (p : Port) (t : Table) : pullsLegal (s.commitTable p t) := by
  refine ⟨?_, fun e' he' hw => ?_⟩
  · rw [State.commitTable_pulls, keysOf_map (endsOnly_commitPull s t)]
    exact h.1
  · obtain ⟨e, he, rfl⟩ := List.mem_map.1 he'
    obtain ⟨hr, hb, hwait⟩ := endsOnly_commitPull s t e
    rw [hr, hb]
    have hnone : s.commitEnds t e = none := by
      rw [State.commitPull, if_pos (hwait hw)] at hw
      cases hc : s.commitEnds t e with
      | none => rfl
      | some o => rw [hc] at hw; cases hw
    exact suppliedBy_of_commitEnds hnone

theorem reset_pullsLegal (s : State) : pullsLegal s.pinReset := by
  refine ⟨⟨Nat.zero_le _, fun p => Nat.zero_le _, List.nodup_nil⟩, fun e he => ?_⟩
  cases he

/-- Each effect keeps the suppliers OPEN, or ends the pulls of the port that leaves OPEN. -/
theorem pullsLegal_preserved : Preserved (fun _ => True) pullsLegal where
  heard s p _ h := h.of_open rfl rfl fun q hq => by rwa [hear_isOpen]
  opened s p a c _ h _ _ := h.of_open rfl rfl fun q hq => isOpen_opened hq
  closed s p _ h hp := h.of_open rfl rfl fun q hq =>
    isOpen_setPhase_of_not_open (by rcases hp with hp | hp <;> rw [State.isOpen, hp] <;> rfl) .closed hq
  torn s p d ph _ h _ := pullsLegal_torn h p d ph
  handDiscarded s p c _ h hp := by
    refine h.of_open (by simp) (by simp) fun q hq => isOpen_setPhase_of_not_open ?_ .closed ?_
    · rw [State.isOpen, State.discardHand_sessions, hp]
      rfl
    · rw [State.isOpen, State.discardHand_sessions]
      exact hq
  acceptedQueued s x c payload lane policy _ h _ _ _ _ := pullsLegal.of_open h rfl rfl fun _ hq => hq
  acceptedBoard s x c payload b _ h _ _ _ _ _ :=
    pullsLegal.of_open (h.map (endsOnly_ite (.satisfied x.sequence) fun e => e.waitsOn b)) rfl rfl fun _ hq => hq
  entryEnds s p c k x d n a _ h _ _ _ := h.of_open (by simp [entryEnded]) (by simp [entryEnded]) fun q hq => isOpen_drained hq
  pulled s p c b q w _ h _ hen hq hne ho hw hd hc hl := h.concat ⟨hen, q, hq, ho, hne⟩ hw hd hc hl
  pullRemoved s f _ h := h.filter f
  pullExpired s p b _ h := h.map (endsOnly_expirePull p b)
  commits s p x _ h _ _ := pullsLegal_commit h p x.shadow
  examined s h := (h.map (endsOnly_atTick s.timeBase)).of_open rfl rfl fun q hq => by
    rw [isOpen_examineTimers]
    exact hq
  reset := reset_pullsLegal

/-- Settles O55: R101 is kept effect by effect. -/
theorem pullListKeepsItsBounds : Obligations.PullListKeepsItsBounds := by
  intro s t hs ht
  rw [← pullsLegal_iff] at hs ⊢
  exact pullsLegal_preserved.step hs ht

end Sys2Proof.Proofs

/-! ### Proofs: wanted sets and attention lines -/

namespace Sys2Proof.Proofs

open Sys2Proof.Machine Sys2Proof.Safety Sys2Proof.Statements Sys2Proof.Laws

-- One proof after another: side by side they take more memory than a check has.
set_option Elab.async false

/-- Two states in which wanted sets and lines agree with the rest of the state alike. -/
structure SameView (s t : State) : Prop where
  resetN : t.resetN = s.resetN
  table : t.table = s.table
  wanted : t.wanted = s.wanted
  attention : t.attention = s.attention
  state : ∀ p : Port, t.sessions[p].phase.state = s.sessions[p].phase.state
  pending : ∀ (p : Port) (r : Reason), t.pendingReason p r = s.pendingReason p r
  waits : ∀ b : BoardIx, (∃ e ∈ t.pulls, e.isWaiting = true ∧ e.board = b) ↔
    ∃ e ∈ s.pulls, e.isWaiting = true ∧ e.board = b

theorem SameView.settled {s t : State} (v : SameView s t) (h : Settled s) : Settled t := by
  obtain ⟨hw, hl⟩ := h
  refine ⟨fun p b => ?_, fun p => ?_⟩
  · rw [v.wanted, v.table, v.waits]
    exact hw p b
  · simp only [v.attention, v.resetN, v.state, v.pending]
    exact hl p

theorem sameView_linked (s : State) (p : Port) (l : Link) : SameView s (s.setLink p l) where
  resetN := rfl
  table := rfl
  wanted := rfl
  attention := rfl
  state _ := rfl
  pending _ r := by cases r <;> rfl
  waits _ := Iff.rfl

/-- Where the sessions change in nothing but their parameters, every reason is pending as before. -/
theorem pendingReason_of_sessions (s : State) (x : PerPort Session)
    (h : ∀ p : Port, x[p].phase.state = s.sessions[p].phase.state) (p : Port) (r : Reason) :
    ({ s with sessions := x } : State).pendingReason p r = s.pendingReason p r := by
  cases r
  case fenced => simp only [State.pendingReason, h p]
  all_goals rfl

theorem hear_state (s : State) (p q : Port) : (s.hear p).sessions[q].phase.state = s.sessions[q].phase.state := by
  by_cases h : q = p
  · subst h
    rw [hear_phase]
    cases s.sessions[q].phase <;> rfl
  · rw [hear_phase_other s h]

theorem sameView_heard (s : State) (p : Port) : SameView s (s.hear p) where
  resetN := rfl
  table := rfl
  wanted := rfl
  attention := rfl
  state := hear_state s p
  pending := pendingReason_of_sessions s _ (hear_state s p)
  waits _ := Iff.rfl

/-! #### A microsecond -/

theorem isWaiting_atTick (e : Pull) (now : Stamp) : (e.atTick now).isWaiting = e.isWaiting := by
  obtain ⟨r, b, st⟩ := e
  cases st <;> rfl

theorem requester_atTick (e : Pull) (now : Stamp) : (e.atTick now).requester = e.requester := by
  obtain ⟨r, b, st⟩ := e
  cases st <;> rfl

theorem board_atTick (e : Pull) (now : Stamp) : (e.atTick now).board = e.board := by
  obtain ⟨r, b, st⟩ := e
  cases st <;> rfl

theorem examineTimers_state (s : State) (q : Port) :
    s.examineTimers.sessions[q].phase.state = s.sessions[q].phase.state := by
  have hs : s.examineTimers.sessions[q].phase = s.sessions[q].phase.mapConn fun c => c.atTick s.timeBase := by
    simp [State.examineTimers, Session.atTick]
  rw [hs]
  cases s.sessions[q].phase <;> rfl

theorem examineTimers_hasDonePull (s : State) (p : Port) : s.examineTimers.hasDonePull p = s.hasDonePull p := by
  simp only [State.hasDonePull, State.examineTimers, List.any_map, Function.comp_def, requester_atTick, isWaiting_atTick]

theorem sameView_examineTimers (s : State) : SameView s s.examineTimers where
  resetN := rfl
  table := rfl
  wanted := rfl
  attention := rfl
  state := examineTimers_state s
  pending p r := by
    have hq : s.examineTimers.queues[p] = s.queues[p].atTick s.timeBase := by simp [State.examineTimers]
    cases r
    case fenced => simp only [State.pendingReason, examineTimers_state]
    case pullDone => exact examineTimers_hasDonePull s p
    case queueUrgent => simp only [State.pendingReason, hq, Queue.atTick]
    case queueNormal => simp only [State.pendingReason, hq, Queue.atTick]
    all_goals rfl
  waits b := by
    simp only [State.examineTimers, List.mem_map, exists_exists_and_eq_and, isWaiting_atTick, board_atTick]

theorem sameView_clock (s : State) (n : Stamp) (k : Fin 1000) : SameView s { s with timeBase := n, tickPhase := k } where
  resetN := rfl
  table := rfl
  wanted := rfl
  attention := rfl
  state _ := rfl
  pending _ r := by cases r <;> rfl
  waits _ := Iff.rfl

theorem advance_settled {s : State} (h : Settled s) : Settled s.advance := by
  have hc := (sameView_clock s (s.timeBase + 1#32) (s.tickPhase + 1)).settled h
  simp only [State.advance]
  split
  · exact (sameView_examineTimers _).settled hc
  · exact hc

/-! #### The reset pin -/

theorem reset_settled (s : State) : Settled s.pinReset := by
  refine ⟨fun p b => ?_, fun p => ?_⟩
  · simp [State.reset]
  · have hr : ∀ r, s.pinReset.pendingReason p r = false := by
      intro r
      cases r <;>
        simp [State.pendingReason, State.hasDonePull, State.reset, Session.initial, Attention.initial, Latched.clear,
          Queue.initial, Board.blank, Phase.state]
    simp [hr, State.reset, Session.initial, Attention.initial, Phase.state]

/-- With RESET_N low every line is released. -/
theorem heldLow_settled {s : State} (h : Settled s) (n : Stamp) (k : Fin 1000) :
    Settled { s with resetN := false, timeBase := n, tickPhase := k,
                     attention := s.attention.map fun a => { a with line := false } } := by
  refine ⟨h.1, fun p => ?_⟩
  simp

/-! #### Every command -/

theorem request_settled {s : State} (h : Head) (code : Byte) (act : Action) (hs : Settled s) :
    Settled (s.request h code act) := by
  unfold State.request
  split
  · exact hs
  · split
    · exact settle_settled _
    · exact settle_settled _

theorem event_settled {s : State} (f : State → State) (hs : Settled s) : Settled (s.event f) := by
  unfold State.event
  split
  · exact hs
  · exact settle_settled _

theorem linkError_settled {s : State} (p : Port) (bytes : List Byte) (o : OutcomeCode) (count : Link → Link)
    (hs : Settled s) : Settled (s.linkError p bytes o count) := by
  unfold State.linkError
  split
  · exact hs
  · exact (sameView_linked s p _).settled hs

/-- Every command ends in settling the state, or changes nothing that wanted sets and lines follow. -/
theorem exec_settled {c : Instr} {s t : State} (hs : Settled s) (h : exec c s = .next t) : Settled t := by
  cases c with
  | poll x =>
    cases h
    split
    · exact hs
    · exact (sameView_heard s x.port).settled hs
  | badCommand x code args =>
    cases h
    split
    · exact hs
    · exact settle_settled _
  | linkTruncated p b => cases h; exact linkError_settled _ _ _ _ hs
  | linkCrc p b => cases h; exact linkError_settled _ _ _ _ hs
  | transactionTooSoon p => cases h; exact hs
  | tick => cases h; exact hs
  | timeBaseAdvance =>
    cases h
    split
    · exact hs
    · exact advance_settled hs
  | resetNAssert => cases h; exact heldLow_settled hs _ _
  | resetNRelease => cases h; exact reset_settled s
  | resetNShortPulse =>
    cases h
    dsimp only
    split
    · exact reset_settled _
    · exact ⟨hs.1, hs.2⟩
  | leaseExpiry p k =>
    cases h
    split
    · split
      · exact event_settled _ hs
      · exact hs
    · exact hs
  | pullExpiry p b =>
    cases h
    split
    · exact event_settled _ hs
    · exact hs
  | claimLapse =>
    cases h
    split
    · split
      · exact event_settled _ hs
      · exact hs
    · exact hs
  | silenceExpiry p =>
    cases h
    split
    · exact event_settled _ hs
    · exact hs
  | openSession | close | unfence | resetPort | reserve | write | abandon | submit | take | peek | release | giveBack
  | renew | readBoard | pull | cancelPull | collect | claim | editRule | clearRule | editBoard | readRule
  | readBoarddef | commit | dropClaim | status | ackReasons | setAttention | stats =>
    cases h
    exact request_settled _ _ _ hs

theorem step_settled {s t : State} (hs : Settled s) (h : step s = .next t) : Settled t := by
  refine step_keeps (I := Settled) ?_ (fun _ _ _ => exec_settled) s t hs h
  exact fun s q hs => ⟨hs.1, hs.2⟩

/-! #### RESET_N low -/

/-- With RESET_N low, settling drives no line. -/
theorem settle_heldInReset {s : State} (h : heldInReset s) : heldInReset s.settle := by
  intro hr
  have hr' : s.resetN = false := hr
  refine ⟨(h hr').1, fun p => ?_⟩
  have hline := s.settle_linesExact p
  rw [State.settle_resetN, hr'] at hline
  simpa using hline

/-- While RESET_N is low nothing but the time base and the lines counts. -/
theorem heldInReset_of_lines {s t : State} (h : heldInReset s) (hr : t.resetN = s.resetN)
    (hn : t.timeBase = s.timeBase) (hl : ∀ q : Port, t.attention[q].line = s.attention[q].line) : heldInReset t := by
  intro hlow
  obtain ⟨hbase, hlines⟩ := h (hr.symm.trans hlow)
  exact ⟨hn.trans hbase, fun q => (hl q).trans (hlines q)⟩

/-- An attention record replaced by one with the same line. -/
theorem line_set {a : PerPort Attention} {p : Port} {x : Attention} (h : x.line = a[p].line) (q : Port) :
    (a.set p x)[q].line = a[q].line := by
  rw [set_get]
  split
  · rename_i hq
    rw [h, hq]
  · rfl

theorem acceptQueued_latched (s : State) (x : Posting) (payload : Payload) (ds : PerPort Delivery) (q : Port) :
    (s.acceptQueued x payload ds).attention[q] =
      if ds[q].lost then { s.attention[q] with latched := { s.attention[q].latched with overflow := true } }
      else s.attention[q] := by
  rw [State.acceptQueued, State.setQueues_attention, State.latchOverflow, ofFn_get]
  rfl

theorem commitTable_latched (s : State) (p : Port) (t : Table) (q : Port) :
    (s.commitTable p t).attention[q] =
      if s.isOpen q && decide (q ≠ p) then
        { s.attention[q] with latched := { s.attention[q].latched with tableChanged := true } }
      else s.attention[q] := by
  rw [State.commitTable_attention, State.latchTableChanged, ofFn_get]

theorem line_drained (s : State) (p q : Port) : (s.drained p).attention[q].line = s.attention[q].line := by
  rcases s.drained_cases p with ⟨hd, -⟩ | ⟨hd, -⟩ <;> rw [hd]
  exact line_set (by rfl) q

/-- Only RESET_N and settling move a line, and time stands while RESET_N is low. -/
theorem heldInReset_preserved : Preserved (fun _ => True) heldInReset where
  settled s h := settle_heldInReset h
  opened s p a c _ h _ _ := heldInReset_of_lines h rfl rfl (line_set rfl)
  torn s p d ph _ h _ := heldInReset_of_lines h (by simp) (by simp) fun q => by
    rw [State.setPhase_attention, State.teardown_attention]
    exact line_set (by rfl) q
  handDiscarded s p c _ h _ := heldInReset_of_lines h rfl rfl (line_set rfl)
  acceptedQueued s x c payload lane policy _ h _ _ _ _ := heldInReset_of_lines h rfl rfl fun q => by
    rw [acceptQueued_latched]
    split <;> rfl
  entryEnds s p c k x d n a _ h _ _ ha := heldInReset_of_lines h (by simp [entryEnded]) (by simp [entryEnded]) fun q => by
    rw [line_drained]
    rcases ha with rfl | rfl
    · rfl
    · exact line_set (a := s.attention) (by rfl) q
  lapsed s x _ h _ := heldInReset_of_lines h rfl rfl (line_set rfl)
  commits s p x _ h _ _ := heldInReset_of_lines h rfl rfl fun q => by
    rw [commitTable_latched]
    split <;> rfl
  acknowledged s p c r _ h _ := heldInReset_of_lines h rfl rfl (line_set rfl)
  masked s p m _ h _ := heldInReset_of_lines h rfl rfl (line_set rfl)
  reset s := nofun
  heldLow s _ _ := ⟨rfl, fun q => by rw [map_get]⟩
  clocked s n k hr _ hlow := by
    have hlow' : s.resetN = false := hlow
    rw [hr] at hlow'
    cases hlow'

/-- Settles O50: every command ends in settling what wanted sets and lines follow, and only RESET_N's events and settling
move a line. -/
theorem wantedSetsAndLinesFollowTheState : Obligations.WantedSetsAndLinesFollowTheState := fun _ _ hs hr h =>
  ⟨step_settled hs h, heldInReset_preserved.step hr h⟩

end Sys2Proof.Proofs

/-! ### Proofs: references and holders -/

namespace Sys2Proof.Proofs

open Sys2Proof.Machine Sys2Proof.Safety Sys2Proof.Statements Sys2Proof.Laws

-- One proof after another: side by side they take more memory than a check has.
set_option Elab.async false

/-! #### Numbers, one a port -/

/-- The numbers of all ports together. -/
def total (n : Port → Nat) : Nat := ((List.finRange 4).map n).sum

theorem total_eq (n : Port → Nat) : total n = n 0 + (n 1 + (n 2 + n 3)) := rfl

theorem total_update (n : Port → Nat) (p : Port) (k : Nat) : total (Function.update n p k) + n p = total n + k := by
  simp only [total_eq]
  fin_cases p <;> simp [Function.update] <;> omega

theorem total_add (n m : Port → Nat) : (total fun p => n p + m p) = total n + total m := by
  simp only [total_eq]
  omega

theorem total_eq_zero {n : Port → Nat} (h : total n = 0) (p : Port) : n p = 0 := by
  rw [total_eq] at h
  fin_cases p <;> simp <;> omega

theorem total_le {n m : Port → Nat} (h : ∀ p, n p ≤ m p) : total n ≤ total m := by
  have h0 := h 0
  have h1 := h 1
  have h2 := h 2
  have h3 := h 3
  simp only [total_eq]
  omega

/-! #### One slot and what names it -/

/-- R13 for one slot: `n` entries of each port name it, and `b` boards hold it. -/
def heldBy (x : Slot) (n : Port → Nat) (b : Nat) : Prop :=
  match x with
  | .live m =>
    match m.kind with
    | .queued => 1 ≤ m.refs ∧ m.refs = total n ∧ (∀ p : Port, n p ≤ 1) ∧ b = 0
    | .boarded => m.refs = 1 ∧ b = 1 ∧ total n = 0
  | _ => b = 0 ∧ total n = 0

/-- A slot that is not LIVE is named by nothing. -/
theorem heldBy_of_not_live {x y : Slot} {n : Port → Nat} {b : Nat} (h : heldBy x n b) (hx : ∀ m, x ≠ .live m)
    (hy : ∀ m, y ≠ .live m) : heldBy y n b := by
  cases x with
  | live m => exact absurd rfl (hx m)
  | free => cases y with
    | live m => exact absurd rfl (hy m)
    | free => exact h
    | composing => exact h
  | composing => cases y with
    | live m => exact absurd rfl (hy m)
    | free => exact h
    | composing => exact h

/-- A slot loses as many references as holders let go of it (R14, R15). -/
theorem heldBy_dropped {x : Slot} {n n' : Port → Nat} {b b' k : Nat} (h : heldBy x n b) (hn : ∀ p, n' p ≤ n p)
    (hb : b' ≤ b) (hk : k + total n' + b' = total n + b) : heldBy (Slot.dropped^[k] x) n' b' := by
  have ht := total_le hn
  rw [iterate_dropped_eq_afterDrops]
  cases x with
  | free =>
    obtain ⟨h1, h2⟩ : b = 0 ∧ total n = 0 := h
    exact ⟨by omega, by omega⟩
  | composing owner payload =>
    obtain ⟨h1, h2⟩ : b = 0 ∧ total n = 0 := h
    exact ⟨by omega, by omega⟩
  | live m =>
    unfold heldBy at h
    cases hkind : m.kind with
    | queued =>
      simp only [hkind] at h
      obtain ⟨h1, h2, h3, h4⟩ := h
      simp only [afterDrops]
      split
      · simp only [heldBy, hkind]
        exact ⟨h1, by omega, fun p => (hn p).trans (h3 p), by omega⟩
      · split
        · exact ⟨by omega, by omega⟩
        · simp only [heldBy, hkind]
          exact ⟨by omega, by omega, fun p => (hn p).trans (h3 p), by omega⟩
    | boarded =>
      simp only [hkind] at h
      obtain ⟨h1, h2, h3⟩ := h
      simp only [afterDrops]
      split
      · simp only [heldBy, hkind]
        exact ⟨h1, by omega, by omega⟩
      · split
        · exact ⟨by omega, by omega⟩
        · omega

/-! #### All slots -/

/-- How many of some boards hold a slot. -/
def holding (boards : Vector Board 32) (i : SlotIx) : Nat := boards.toList.countP fun b => decide (b.held = some i)

/-- R13, of the slots, the queues and the boards. -/
def heldAll (slots : Vector Slot 256) (queues : PerPort Queue) (boards : Vector Board 32) : Prop :=
  ∀ i : SlotIx, heldBy slots[i] (fun p => entriesNaming queues[p] i) (holding boards i)

theorem referencesExact_iff (s : State) : referencesExact s ↔ heldAll s.pool.slots s.queues s.boards := Iff.rfl

section HeldAll

variable {slots : Vector Slot 256} {queues : PerPort Queue} {boards : Vector Board 32}

/-- Holders let go, and the slots they named lose a reference each. -/
theorem heldAll.drop (h : heldAll slots queues boards) {queues' : PerPort Queue} {boards' : Vector Board 32}
    (refs : List SlotIx) (hq : ∀ (i : SlotIx) (p : Port), entriesNaming queues'[p] i ≤ entriesNaming queues[p] i)
    (hb : ∀ i : SlotIx, holding boards' i ≤ holding boards i)
    (hk : ∀ i : SlotIx, refs.count i + (total fun p => entriesNaming queues'[p] i) + holding boards' i =
      (total fun p => entriesNaming queues[p] i) + holding boards i) :
    heldAll (dropAll slots refs) queues' boards' := fun i => by
  rw [dropAll_get]
  exact heldBy_dropped (h i) (hq i) (hb i) (hk i)

theorem entriesNaming_set (queues : PerPort Queue) (p : Port) (q : Queue) (i : SlotIx) :
    (fun r : Port => entriesNaming (queues.set p q)[r] i) =
      Function.update (fun r : Port => entriesNaming queues[r] i) p (entriesNaming q i) := by
  funext r
  rw [set_get, Function.update_apply]
  split <;> rfl

/-- Entries of one port end, and the slots they named lose a reference each. -/
theorem heldAll.dropPort (h : heldAll slots queues boards) {p : Port} {q : Queue} {refs : List SlotIx}
    (hk : ∀ i : SlotIx, refs.count i + entriesNaming q i = entriesNaming queues[p] i) :
    heldAll (dropAll slots refs) (queues.set p q) boards := by
  refine h.drop refs (fun i r => ?_) (fun i => le_rfl) fun i => ?_
  · rw [set_get]
    split
    · rename_i hr
      have hi := hk i
      rw [hr]
      omega
    · exact le_rfl
  · have hi := hk i
    have hu := total_update (fun r : Port => entriesNaming queues[r] i) p (entriesNaming q i)
    rw [entriesNaming_set]
    omega

/-- A queue whose entries name the same slots. -/
theorem heldAll.sameEntries (h : heldAll slots queues boards) {p : Port} {q : Queue}
    (hq : ∀ i : SlotIx, entriesNaming q i = entriesNaming queues[p] i) : heldAll slots (queues.set p q) boards :=
  h.dropPort (refs := []) fun i => by rw [List.count_nil, Nat.zero_add, hq]

/-- Board records that hold the same slots. -/
theorem heldAll.sameBoards (h : heldAll slots queues boards) {boards' : Vector Board 32}
    (hb : ∀ i : SlotIx, holding boards' i = holding boards i) : heldAll slots queues boards' := fun i => by
  rw [hb]
  exact h i

/-- Slots that are not LIVE may change into others that are not. -/
theorem heldAll.unnamed (h : heldAll slots queues boards) {slots' : Vector Slot 256}
    (hs : ∀ i : SlotIx, slots'[i] = slots[i] ∨ (∀ m, slots[i] ≠ .live m) ∧ ∀ m, slots'[i] ≠ .live m) :
    heldAll slots' queues boards := fun i => by
  rcases hs i with he | ⟨hx, hy⟩
  · rw [he]
    exact h i
  · exact heldBy_of_not_live (h i) hx hy

theorem heldAll.setUnnamed (h : heldAll slots queues boards) {slot : SlotIx} {sl : Slot}
    (hx : ∀ m, slots[slot] ≠ .live m) (hy : ∀ m, sl ≠ .live m) : heldAll (slots.set slot sl) queues boards :=
  h.unnamed fun i => by
    rw [set_get]
    split
    · rename_i hi
      exact .inr ⟨hi ▸ hx, hy⟩
    · exact .inl rfl

theorem heldAll.freeComposing (h : heldAll slots queues boards) (p : Port) :
    heldAll (freeComposing p slots) queues boards :=
  h.unnamed fun i => by
    rw [freeComposing_get]
    split
    · rename_i hc
      obtain ⟨pl, hpl⟩ := composedBy_iff.1 hc
      rw [hpl]
      exact .inr ⟨nofun, nofun⟩
    · exact .inl rfl

/-- Nothing names a slot that is not LIVE. -/
theorem heldAll.unnamed_of (h : heldAll slots queues boards) {i : SlotIx} (hx : ∀ m, slots[i] ≠ .live m) :
    (∀ p : Port, entriesNaming queues[p] i = 0) ∧ holding boards i = 0 := by
  obtain ⟨hb, hn⟩ : holding boards i = 0 ∧ (total fun p : Port => entriesNaming queues[p] i) = 0 :=
    heldBy_of_not_live (y := .free) (h i) hx nofun
  exact ⟨total_eq_zero hn, hb⟩

end HeldAll

/-! #### Entries that name a slot -/

theorem entriesNaming_perm {q q' : Queue} (h : (entriesOf q').Perm (entriesOf q)) (i : SlotIx) :
    entriesNaming q' i = entriesNaming q i := h.countP_eq _

theorem entriesNaming_cons {q q' : Queue} {e : Entry} (h : (entriesOf q').Perm (e :: entriesOf q)) (i : SlotIx) :
    entriesNaming q' i = entriesNaming q i + if e.slot = i then 1 else 0 := by
  unfold entriesNaming
  rw [h.countP_eq, List.countP_cons]
  simp only [decide_eq_true_eq]

theorem count_slots (es : List Entry) (i : SlotIx) :
    (es.map fun e => e.slot).count i = es.countP fun e => decide (e.slot = i) := by
  rw [List.count, List.countP_map]
  rfl

theorem entriesNaming_eq (q : Queue) (i : SlotIx) :
    entriesNaming q i =
      ((q.urgent ++ q.normal).map fun e => e.slot).count i + (q.handEntries.map fun x => x.entry.slot).count i := by
  unfold entriesNaming entriesOf
  rw [List.countP_append, count_slots, ← count_slots (q.handEntries.map fun x => x.entry), List.map_map]
  rfl

/-- The entries a teardown takes are those it drops the references of (R83). -/
theorem entriesNaming_torn (q : Queue) (d : Bool) (n : Half) (i : SlotIx) :
    (q.tornRefs d).count i +
        entriesNaming (if d then { q with urgent := [], normal := [], hand := Vector.replicate 4 none, discard := n }
          else { q with urgent := [], normal := [] }) i =
      entriesNaming q i := by
  rw [Queue.tornRefs, List.count_append, entriesNaming_eq q, entriesNaming_eq]
  cases d with
  | false =>
    have hh : ({ q with urgent := [], normal := [] } : Queue).handEntries = q.handEntries := rfl
    simp [hh]
  | true => simp

theorem holding_pos {boards : Vector Board 32} {b : BoardIx} {i : SlotIx} (h : boards[b].held = some i) :
    0 < holding boards i :=
  List.countP_pos_iff.2 ⟨boards[b], by simp, by simpa using h⟩

/-- Boards that hold a slot after one board's record is replaced. -/
theorem holding_set (boards : Vector Board 32) (b : BoardIx) (bd : Board) (i : SlotIx) :
    holding (boards.set b bd) i + (if boards[b].held = some i then 1 else 0) =
      holding boards i + if bd.held = some i then 1 else 0 := by
  have hpos : boards[b].held = some i → 0 < holding boards i := holding_pos
  unfold holding at hpos ⊢
  rw [Vector.toList_set, List.countP_set (by simp)]
  simp only [decide_eq_true_eq, Vector.getElem_toList, Fin.getElem_fin] at hpos ⊢
  split <;> split <;> simp_all

theorem holding_map (boards : Vector Board 32) (f : Board → Board) (hf : ∀ b, (f b).held = b.held) (i : SlotIx) :
    holding (boards.map f) i = holding boards i := by
  unfold holding
  rw [Vector.toList_map, List.countP_map]
  simp only [Function.comp_def, hf]

/-- Two counts over one list, added up member by member. -/
theorem countP_add {α : Type} (l : List α) (f g h : α → Bool)
    (hfg : ∀ a, ((if f a then 1 else 0) + if g a then 1 else 0) = if h a then 1 else 0) :
    l.countP f + l.countP g = l.countP h := by
  induction l with
  | nil => rfl
  | cons a l ih =>
    have ha := hfg a
    simp only [List.countP_cons]
    omega

/-- A withdrawn board lets go of the slot it held (R95). -/
theorem holding_boardsAfter (s : State) (t : Table) (i : SlotIx) :
    (s.withdrawnSlots t).count i + holding (s.boardsAfter t) i = holding s.boards i := by
  unfold holding
  rw [toList_countP, toList_countP, State.withdrawnSlots, List.count_filterMap]
  refine countP_add _ _ _ _ fun b => ?_
  rw [State.boardsAfter, ofFn_get]
  split
  · simp [Board.blank]
  · simp

/-! #### Deliveries (R49 to R53) -/

/-- A delivered entry names its slot, and an evicted one does no longer. -/
theorem entriesNaming_delivery (s : State) (d : PortSet) (policy : FullPolicy) (e : Entry) (p : Port) (i : SlotIx) :
    entriesNaming (s.deliveries d policy e)[p].queue i +
        (if (s.deliveries d policy e)[p].evicted = some i then 1 else 0) =
      entriesNaming s.queues[p] i + if (s.deliveries d policy e)[p].delivered = true ∧ e.slot = i then 1 else 0 := by
  rw [deliveries_get]
  split
  · rcases deliver_cases s.queues[p] (s.isFull p) policy e with hd | ⟨-, hd⟩ | ⟨old, q', -, he, hd⟩ <;> rw [hd]
    · simp [Queue.skip, entriesNaming, entriesOf_counted]
    · simp only [entriesNaming_cons (entriesOf_append _ _)]
      simp
    · have hcount : entriesNaming { q' with overflow := satAdd q'.overflow 1 } i = entriesNaming q' i := rfl
      rw [entriesNaming_cons (entriesOf_evict he), entriesNaming_cons (entriesOf_append _ _), hcount]
      simp only [Option.some.injEq, true_and]
      omega
  · simp

/-- Each evicted entry drops one reference (R52). -/
theorem count_evictedSlots (ds : PerPort Delivery) (i : SlotIx) :
    (evictedSlots ds).count i = total fun p : Port => if ds[p].evicted = some i then 1 else 0 := by
  rw [evictedSlots, List.count_filterMap, toList_countP, total_eq]
  simp [List.finRange_succ, List.countP_cons]
  omega

/-- A QUEUED message has a reference for each port it was delivered to (R49). -/
theorem portCount_deliveredSet (ds : PerPort Delivery) :
    portCount (deliveredSet ds) = total fun p : Port => if ds[p].delivered = true then 1 else 0 := by
  rw [portCount, toList_countP, total_eq]
  simp [deliveredSet, List.finRange_succ, List.countP_cons]
  omega

/-- What is evicted stood in a lane. -/
theorem evicted_named {s : State} {d : PortSet} {policy : FullPolicy} {e : Entry} {p : Port} {i : SlotIx}
    (h : (s.deliveries d policy e)[p].evicted = some i) : entriesNaming s.queues[p] i ≠ 0 := by
  rw [deliveries_get] at h
  split at h
  · rcases deliver_cases s.queues[p] (s.isFull p) policy e with hd | ⟨-, hd⟩ | ⟨old, q', -, he, hd⟩ <;> rw [hd] at h
    · cases h
    · cases h
    · rw [entriesNaming_cons (entriesOf_evict he), if_pos (Option.some.inj h)]
      omega
  · cases h

/-- A new QUEUED message named once by each port it was delivered to. -/
theorem heldBy_queued (x : Posting) (payload : Payload) (now : Stamp) {n : Port → Nat} (hn : ∀ p, n p ≤ 1) :
    heldBy (x.slotAfter payload now .queued (total n)) n 0 := by
  unfold Posting.slotAfter
  split
  · exact ⟨rfl, ‹_›⟩
  · exact ⟨Nat.one_le_iff_ne_zero.2 ‹_›, rfl, hn, rfl⟩

/-- Acceptance of a QUEUED submission: the new message has a reference for each delivery, and each eviction drops one. -/
theorem heldAll_acceptQueued {s : State} {x : Posting} {payload : Payload} {e : Entry}
    (h : heldAll s.pool.slots s.queues s.boards) (hslot : ∀ m, s.pool.slots[x.slot] ≠ .live m) (he : e.slot = x.slot)
    (d : PortSet) (policy : FullPolicy) :
    heldAll
      (dropAll
        (s.pool.slots.set x.slot
          (x.slotAfter payload s.timeBase .queued (portCount (deliveredSet (s.deliveries d policy e)))))
        (evictedSlots (s.deliveries d policy e)))
      ((s.deliveries d policy e).map fun d => d.queue) s.boards := by
  intro i
  have hds := fun p => entriesNaming_delivery s d policy e p i
  have hev := fun p => evicted_named (s := s) (d := d) (policy := policy) (e := e) (p := p) (i := i)
  simp only [map_get]
  rw [dropAll_get, set_get, count_evictedSlots]
  generalize s.deliveries d policy e = ds at hds hev ⊢
  split
  · rename_i hi
    subst hi
    obtain ⟨hnone, hboards⟩ := h.unnamed_of hslot
    have hkept : ∀ p : Port, ds[p].evicted ≠ some x.slot := fun p hp => hev p hp (hnone p)
    have hn : ∀ p : Port, entriesNaming ds[p].queue x.slot = if ds[p].delivered = true then 1 else 0 := fun p => by
      simpa only [hkept p, if_false, Nat.add_zero, hnone p, Nat.zero_add, he, and_true] using hds p
    simp only [hkept, if_false, hn, hboards]
    rw [portCount_deliveredSet]
    exact heldBy_queued x payload s.timeBase fun p => by split <;> omega
  · rename_i hi
    have hother : e.slot ≠ i := fun h => hi (h.symm.trans he)
    have hn : ∀ p : Port, entriesNaming ds[p].queue i + (if ds[p].evicted = some i then 1 else 0) =
        entriesNaming s.queues[p] i := fun p => by
      simpa only [hother, and_false, if_false, Nat.add_zero] using hds p
    refine heldBy_dropped (h i) (fun p => by have := hn p; omega) le_rfl ?_
    rw [Nat.add_right_cancel_iff, ← total_add]
    exact congrArg total (funext fun p => by rw [Nat.add_comm, hn p])

/-- Acceptance of a BOARD submission: the board names the new message, and lets go of what it held (R88). -/
theorem heldAll_acceptBoard {slots : Vector Slot 256} {queues : PerPort Queue} {boards : Vector Board 32} {x : Posting}
    (h : heldAll slots queues boards) (hslot : ∀ m, slots[x.slot] ≠ .live m) (b : BoardIx) {bd : Board}
    (hbd : bd.held = some x.slot) (payload : Payload) (now : Stamp) :
    heldAll (dropAll (slots.set x.slot (x.slotAfter payload now .boarded 1)) boards[b].held.toList) queues
      (boards.set b bd) := by
  intro i
  have hset := holding_set boards b bd i
  have hcount : boards[b].held.toList.count i = if boards[b].held = some i then 1 else 0 := by
    cases boards[b].held with
    | none => rfl
    | some j => simp [List.count_singleton]
  rw [dropAll_get, set_get, hcount]
  rw [hbd] at hset
  by_cases hi : i = x.slot
  · subst hi
    obtain ⟨hnone, hboards⟩ := h.unnamed_of hslot
    have hb : boards[b].held ≠ some x.slot := fun hb => (holding_pos hb).ne' hboards
    rw [if_neg hb, if_pos rfl, hboards] at hset
    rw [if_neg hb, if_pos rfl]
    exact ⟨rfl, hset, by simp only [hnone]; rfl⟩
  · rw [if_neg fun he => hi (Option.some.inj he).symm, Nat.add_zero] at hset
    rw [if_neg hi]
    exact heldBy_dropped (h i) (fun p => le_rfl) (by omega) (by omega)

theorem not_live_of_composing {sl : Slot} {p : Port} {payload : Payload} (h : sl = .composing p payload) :
    ∀ m, sl ≠ .live m := by
  rw [h]
  exact nofun

theorem reset_referencesExact (s : State) : referencesExact s.pinReset := by
  intro i
  simp [slotHeld, State.reset, Pool.initial, boardsHolding, holdersOf, entriesNaming, entriesOf, Queue.initial, Board.blank]

/-- Each effect that adds or ends holders moves the slot's reference count with them. -/
theorem referencesExact_preserved : Preserved freeListExact referencesExact where
  torn s p d ph _ h _ := by
    rw [referencesExact_iff, State.setPhase_pool, State.setPhase_queues, State.setPhase_boards, State.teardown_pool,
      State.teardown_queues, State.teardown_boards]
    exact ((heldAll.freeComposing h p).dropPort (entriesNaming_torn s.queues[p] d _)).sameBoards
      (holding_map _ _ fun b => rfl)
  handDiscarded s p c _ h _ := by
    rw [referencesExact_iff, State.setPhase_pool, State.setPhase_queues, State.setPhase_boards, State.discardHand_pool,
      State.discardHand_queues, State.discardHand_boards]
    exact heldAll.dropPort h fun i => by
      rw [entriesNaming_eq, entriesNaming_eq s.queues[p]]
      simp [Nat.add_comm]
  reserved s p c i rest hP h _ _ hfree := by
    refine heldAll.setUnnamed h (fun m hm => ?_) nofun
    have hi : s.pool.slots[i].isFree = true := (hP.2 i).1 (by rw [hfree]; exact List.mem_cons_self)
    rw [hm] at hi
    cases hi
  written s p slot payload payload' _ h hslot := heldAll.setUnnamed h (not_live_of_composing hslot) nofun
  abandoned s p slot _ h hslot := by
    obtain ⟨payload, hc⟩ := composedBy_iff.1 hslot
    exact heldAll.setUnnamed h (not_live_of_composing hc) nofun
  acceptedQueued s x c payload lane policy _ h _ hslot _ _ :=
    heldAll_acceptQueued h (not_live_of_composing hslot) rfl _ policy
  acceptedBoard s x c payload b _ h _ hslot _ _ _ :=
    heldAll_acceptBoard h (not_live_of_composing hslot) b rfl payload s.timeBase
  taken s p c k e lease _ h _ hk he := heldAll.sameEntries h (entriesNaming_perm (entriesOf_takeInto lease hk he))
  entryEnds s p c k x d n a _ h _ hx _ := by
    rw [referencesExact_iff, State.drained_pool, State.drained_queues, State.drained_boards]
    refine heldAll.dropPort h fun i => ?_
    rw [entriesNaming_cons (entriesOf_freeHandle hx), List.count_singleton, Nat.add_comm]
    simp only [beq_iff_eq]
    rfl
  returned s p c k x n r _ h _ hx _ := heldAll.sameEntries h fun i => by
    rw [entriesNaming_cons (entriesOf_putBack _ _), entriesNaming_cons (entriesOf_freeHandle hx)]
    rfl
  renewed s p c k x lease _ h _ hx := heldAll.sameEntries h (entriesNaming_perm (entriesOf_renewed hx lease))
  queueCounted s p o d n h := heldAll.sameEntries h fun i => rfl
  boardRead s p b _ h := heldAll.sameBoards h fun i => Nat.add_right_cancel (holding_set s.boards b _ i)
  commits s p x _ h _ _ := by
    rw [referencesExact_iff, State.commitTable_pool, State.commitTable_queues, State.commitTable_boards]
    refine heldAll.drop h (s.withdrawnSlots x.shadow) (fun i q => le_rfl) (fun i => ?_) fun i => ?_
    · have := holding_boardsAfter s x.shadow i
      omega
    · have := holding_boardsAfter s x.shadow i
      omega
  examined s h := fun i => by
    have hq : ∀ q : Port, entriesNaming (s.queues.map fun q => q.atTick s.timeBase)[q] i = entriesNaming s.queues[q] i :=
      fun q => by rw [map_get, entriesNaming, entriesOf_atTick]; rfl
    have hi := (referencesExact_iff s).1 h i
    simp only [← hq] at hi
    exact hi
  reset := reset_referencesExact

/-- Settles O58: holders and reference counts move together in every effect. -/
theorem referencesCountTheHolders : Obligations.ReferencesCountTheHolders := fun _ _ hP h hst =>
  freeListExact_preserved.stepUnder referencesExact_preserved hP h hst

end Sys2Proof.Proofs

/-! ### Proofs: board records -/

namespace Sys2Proof.Proofs

open Sys2Proof.Machine Sys2Proof.Safety Sys2Proof.Statements Sys2Proof.Laws

-- One proof after another: side by side they take more memory than a check has.
set_option Elab.async false

theorem blank_consistent (enabled : Bool) : boardConsistent enabled Board.blank := by
  refine ⟨by simp [Board.blank], fun _ p => ?_, fun p _ => ?_, fun _ => rfl⟩ <;> simp [Board.blank]

/-- A board that forgets a port's mark, read by the port (R92) or taken back from it (R97). -/
theorem unmarked_consistent {enabled : Bool} {bd : Board} (h : boardConsistent enabled bd) (p : Port) :
    boardConsistent enabled
      { bd with unread := bd.unread.set p false, overwrites := bd.overwrites.set p 0#8 } := by
  obtain ⟨hseq, hmarks, hcounts, hen⟩ := h
  refine ⟨hseq, fun hn q => ?_, fun q hq => ?_, hen⟩
  · dsimp only
    rw [set_get]
    split
    · rfl
    · exact hmarks hn q
  · dsimp only at hq ⊢
    rw [set_get] at hq ⊢
    split
    · rfl
    · rename_i hqp
      rw [if_neg hqp] at hq
      exact hcounts q hq

/-- A board updated by a sequence that is not 0 (R88, R89). -/
theorem updated_consistent {enabled : Bool} {bd : Board} (h : boardConsistent enabled bd) (slot : SlotIx) {n : Seq}
    (hn : n ≠ 0#48) (marked : PortSet) (hen : enabled = true) :
    boardConsistent enabled (bd.updated slot n marked) := by
  obtain ⟨-, -, hcounts, -⟩ := h
  refine ⟨⟨nofun, fun h0 => absurd h0 hn⟩, nofun, fun p hp => ?_, fun hd => ?_⟩
  · simp only [Board.updated, ofFn_get, Bool.or_eq_false_iff] at hp ⊢
    rw [hp.2, Bool.false_and, if_neg (by simp)]
    exact hcounts p hp.1
  · rw [hen] at hd
    cases hd

/-- The rule that governs a BOARD submission names an enabled board where the table is lawful (R129). -/
theorem enabled_of_govern {t : Table} (h : tableLawful t) {tag : Half} {author : Port} {r : Rule} {b : BoardIx}
    (hr : t.govern tag author = some r) (hc : r.cls = .board b) : t.boards[b].enabled = true := by
  obtain ⟨i, rfl, happlies, -⟩ := govern_some hr
  have hv : t.rules[i].valid = true := by
    simp only [Rule.applies, Bool.and_eq_true] at happlies
    exact happlies.1.1
  exact (h i hv).2 b hc

/-- R87, with what an update needs of the sequence counter. -/
def boardsKept (s : State) : Prop := counterLegal s.sequence ∧ boardsConsistent s

theorem boardsConsistent_set {s : State} (h : boardsConsistent s) {b : BoardIx} {bd : Board}
    (hb : boardConsistent s.table.boards[b].enabled s.boards[b] → boardConsistent s.table.boards[b].enabled bd)
    (c : BoardIx) : boardConsistent s.table.boards[c].enabled (s.boards.set b bd)[c] := by
  rw [set_get]
  split
  · rename_i hc
    rw [hc]
    exact hb (h b)
  · exact h c

/-- A commit leaves no slot at a board it disables (R95). -/
theorem boardsConsistent_commit {s : State} (h : boardsConsistent s) (t : Table) (b : BoardIx) :
    boardConsistent t.boards[b].enabled (s.boardsAfter t)[b] := by
  rw [State.boardsAfter, ofFn_get]
  split
  · exact blank_consistent _
  · rename_i hw
    obtain ⟨hseq, hmarks, hcounts, hen⟩ := h b
    refine ⟨hseq, hmarks, hcounts, fun hoff => hen ?_⟩
    by_contra hon
    exact hw (by simp only [withdrawn, hoff, Bool.not_false, Bool.and_true]; simpa using hon)

theorem reset_boardsKept (s : State) : boardsKept s.pinReset := by
  refine ⟨Nat.one_pos, fun b => ?_⟩
  have hb : s.pinReset.boards[b] = Board.blank := by simp [State.reset]
  rw [hb]
  exact blank_consistent _

/-- Updates, reads, teardowns and commits are what writes a board record. -/
theorem boardsKept_preserved : Preserved (fun s => tableLawful s.table) boardsKept where
  torn s p d ph _ h _ := by
    refine ⟨by rw [State.setPhase_sequence, State.teardown_sequence]; exact h.1, fun b => ?_⟩
    simp only [State.setPhase_table, State.setPhase_boards, State.teardown_table, State.teardown_boards]
    rw [map_get]
    exact unmarked_consistent (h.2 b) p
  acceptedQueued s x c payload lane policy _ h _ _ _ _ := ⟨counterLegal_after _, h.2⟩
  acceptedBoard s x c payload b hP h _ _ hn hr hc := by
    refine ⟨counterLegal_after _, boardsConsistent_set h.2 fun hb => ?_⟩
    have hpos : counterLegal (.next x.sequence) := hn ▸ h.1
    refine updated_consistent hb _ (fun h0 => ?_) _ (enabled_of_govern hP hr hc)
    rw [h0] at hpos
    exact Nat.lt_irrefl 0 hpos
  entryEnds s p c k x d n a _ h _ _ _ := by
    refine ⟨by rw [State.drained_sequence]; exact h.1, fun b => ?_⟩
    simp only [State.drained_table, State.drained_boards]
    exact h.2 b
  boardRead s p b _ h := ⟨h.1, boardsConsistent_set h.2 fun hb => unmarked_consistent hb p⟩
  commits s p x _ h _ _ := ⟨h.1, boardsConsistent_commit h.2 x.shadow⟩
  reset := reset_boardsKept

/-- Settles O56: every effect on a board record or the active table keeps R87. -/
theorem boardRecordsStayConsistent : Obligations.BoardRecordsStayConsistent := fun _ _ ht hc hb hst =>
  (tableLawful_preserved.stepUnder boardsKept_preserved ht ⟨hc, hb⟩ hst).2

end Sys2Proof.Proofs

/-! ### Proofs: masks and latched reasons -/

namespace Sys2Proof.Proofs

open Sys2Proof.Machine Sys2Proof.Safety Sys2Proof.Statements Sys2Proof.Laws

-- One proof after another: side by side they take more memory than a check has.
set_option Elab.async false

/-! #### The claim's holder stays OPEN (R118, R131) -/

theorem reset_holderOpen (s : State) : holderOpen s.pinReset := nofun

/-- Only a teardown takes an OPEN session away, and it frees the port's claim. -/
theorem holderOpen_preserved : Preserved (fun _ => True) holderOpen where
  heard s p _ h c hc := by rw [hear_isOpen]; exact h c hc
  opened s p a c _ h _ _ x hx := isOpen_opened (h x hx)
  closed s p _ h hp x hx :=
    isOpen_setPhase_of_not_open (by rcases hp with hp | hp <;> rw [State.isOpen, hp] <;> rfl) .closed (h x hx)
  torn s p d ph _ h _ x hx := by
    rw [State.setPhase_claim, State.teardown_claim, Option.filter_eq_some_iff] at hx
    obtain ⟨hx, hne⟩ := hx
    rw [setPhase_isOpen, if_neg (by simpa using hne), State.isOpen, State.teardown_sessions]
    exact h x hx
  handDiscarded s p c _ h hp x hx := by
    rw [State.setPhase_claim, State.discardHand_claim] at hx
    refine isOpen_setPhase_of_not_open ?_ .closed ?_
    · rw [State.isOpen, State.discardHand_sessions, hp]
      rfl
    · rw [State.isOpen, State.discardHand_sessions]
      exact h x hx
  entryEnds s p c k x d n a _ h _ _ _ y hy := by
    rw [State.drained_claim] at hy
    exact isOpen_drained (h y hy)
  claimed s x _ h hx y hy := by
    obtain rfl : x = y := Option.some.inj hy
    rcases hx with hx | ⟨z, hz, hh⟩
    · exact hx
    · exact hh ▸ h z hz
  unclaimed s _ _ := nofun
  lapsed s x _ _ _ := nofun
  commits s p x _ _ _ _ := nofun
  examined s h x hx := by
    obtain ⟨y, hy, rfl⟩ := Option.map_eq_some_iff.1 hx
    rw [isOpen_examineTimers]
    exact h y hy
  reset := reset_holderOpen

/-! #### What a port's attention record holds in each session state -/

/-- R177 and R179, of one port. -/
def flagsLegal (ph : Phase) (a : Attention) : Prop :=
  a.mask &&& 0xFC01#16 = 0#16 ∧
    match ph with
    | .opened _ => True
    | .closing _ => a.latched = { Latched.clear with discarded := a.latched.discarded }
    | .closed => a.latched = .clear
    | .fenced => a.latched = .clear

/-- R177 and R179, of every port. -/
def attentionLegal (s : State) : Prop := ∀ p : Port, flagsLegal s.sessions[p].phase s.attention[p]

theorem attentionLegal_iff (s : State) : attentionLegal s ↔ masksLegal s ∧ latchesLegal s := by
  simp only [attentionLegal, masksLegal, latchesLegal, ← forall_and]
  refine forall_congr' fun p => ?_
  unfold flagsLegal
  cases s.sessions[p].phase <;> simp [Phase.conn?]

theorem flagsLegal_clear {ph ph' : Phase} {a : Attention} (h : flagsLegal ph a) :
    flagsLegal ph' { a with latched := .clear } := by
  refine ⟨h.1, ?_⟩
  cases ph' <;> trivial

/-- In OPEN every flag may be latched. -/
theorem flagsLegal_opened {ph : Phase} {a a' : Attention} (h : flagsLegal ph a) (hm : a'.mask = a.mask)
    (ho : ph.isOpen = true) : flagsLegal ph a' := by
  cases ph with
  | opened c => exact ⟨hm ▸ h.1, trivial⟩
  | closing c => cases ho
  | closed => cases ho
  | fenced => cases ho

/-- New parameters, or none, change no flag. -/
theorem flagsLegal_mapConn {ph : Phase} {a : Attention} (h : flagsLegal ph a) (f : Conn → Conn) :
    flagsLegal (ph.mapConn f) a := by
  cases ph <;> exact h

/-- In session DISCARDED may be latched. -/
theorem flagsLegal_discarded {ph : Phase} {a : Attention} (h : flagsLegal ph a) {c : Conn} (hc : ph.conn? = some c) :
    flagsLegal ph { a with latched := { a.latched with discarded := true } } := by
  cases ph with
  | opened c => exact ⟨h.1, trivial⟩
  | closing c =>
    obtain ⟨hm, hl⟩ := h
    refine ⟨hm, ?_⟩
    dsimp only
    rw [hl]
  | closed => cases hc
  | fenced => cases hc

theorem flagsLegal_acknowledged {ph : Phase} {a : Attention} (h : flagsLegal ph a) (r : Half) :
    flagsLegal ph { a with latched := a.latched.acknowledge r } := by
  obtain ⟨hm, hl⟩ := h
  refine ⟨hm, ?_⟩
  cases ph <;> simp only at hl ⊢
  all_goals rw [hl]; rfl

theorem attentionLegal_set {s : State} (h : attentionLegal s) {p : Port} {a : Attention}
    (ha : flagsLegal s.sessions[p].phase s.attention[p] → flagsLegal s.sessions[p].phase a) (q : Port) :
    flagsLegal s.sessions[q].phase (s.attention.set p a)[q] := by
  rw [set_get]
  split
  · rename_i hq
    rw [hq]
    exact ha (h p)
  · exact h q

/-- A session that changes with its port's attention record. -/
theorem attentionLegal_setBoth {s : State} (h : attentionLegal s) {p : Port} {x : Session} {a : Attention}
    (ha : flagsLegal s.sessions[p].phase s.attention[p] → flagsLegal x.phase a) (q : Port) :
    flagsLegal (s.sessions.set p x)[q].phase (s.attention.set p a)[q] := by
  rw [set_get, set_get]
  split
  · exact ha (h p)
  · exact h q

theorem attentionLegal_drained {s : State} (h : attentionLegal s) (p : Port) : attentionLegal (s.drained p) := by
  rcases s.drained_cases p with ⟨hd, -⟩ | ⟨hd, -⟩ <;> rw [hd]
  · exact h
  · exact attentionLegal_setBoth h flagsLegal_clear

/-- A message is lost at OPEN ports only (R46, R51 to R53). -/
theorem isOpen_of_lost {s : State} {d : PortSet} {policy : FullPolicy} {e : Entry} {q : Port}
    (h : (s.deliveries (s.filterOpen d) policy e)[q].lost = true) : s.isOpen q = true := by
  rw [deliveries_get, filterOpen_get] at h
  split at h
  · rename_i hd
    exact (Bool.and_eq_true_iff.1 hd).2
  · cases h

theorem reset_attentionLegal (s : State) : attentionLegal s.pinReset := by
  intro p
  have hp : s.pinReset.sessions[p].phase = .closed := by simp [State.reset, Session.initial]
  have ha : s.pinReset.attention[p] = Attention.initial := by simp [State.reset]
  rw [hp, ha]
  exact ⟨rfl, rfl⟩

/-- OPEN ports latch what happens to them, CLOSING ones DISCARDED alone, and a session that ends clears its flags. -/
theorem attentionLegal_preserved : Preserved holderOpen attentionLegal where
  heard s p _ h q := by
    by_cases hq : q = p
    · subst hq
      rw [hear_phase]
      exact flagsLegal_mapConn (h q) _
    · rw [hear_phase_other s hq]
      exact h q
  settled s h q := by
    have hq := h q
    unfold flagsLegal at hq ⊢
    rw [Fin.getElem_fin, Fin.getElem_fin, State.settle_mask, State.settle_latched, State.settle_sessions]
    exact hq
  opened s p a c _ h _ _ := attentionLegal_setBoth h fun _ =>
    ⟨show maskAll &&& 0xFC01#16 = 0#16 by decide, trivial⟩
  closed s p _ h hp q := by
    have hq := h q
    by_cases hqp : q = p
    · subst hqp
      rw [setPhase_phase]
      rcases hp with hp | hp <;> rw [hp] at hq <;> exact hq
    · rw [setPhase_other _ hqp]
      exact hq
  torn s p d ph _ h _ q := by
    simp only [State.setPhase_sessions, State.setPhase_attention, State.teardown_sessions, State.teardown_attention]
    exact attentionLegal_setBoth h flagsLegal_clear q
  handDiscarded s p c _ h _ := attentionLegal_setBoth h flagsLegal_clear
  acceptedQueued s x c payload lane policy _ h _ _ _ _ q := by
    rw [acceptQueued_latched, acceptQueued_sessions]
    split
    · rename_i hl
      have ho := isOpen_of_lost hl
      exact flagsLegal_opened (a := s.attention[q]) (h q) rfl ho
    · exact h q
  entryEnds s p c k x d n a _ h hc _ ha := by
    refine attentionLegal_drained ?_ p
    rcases ha with rfl | rfl
    · exact h
    · exact attentionLegal_set h fun hf => flagsLegal_discarded hf hc
  lapsed s x hP h hx := attentionLegal_set h fun hf => flagsLegal_opened hf rfl (hP x hx)
  commits s p x _ h _ _ q := by
    rw [commitTable_latched]
    split
    · rename_i hq
      exact flagsLegal_opened (h q) rfl (Bool.and_eq_true_iff.1 hq).1
    · exact h q
  acknowledged s p c r _ h _ := attentionLegal_set h fun hf => flagsLegal_acknowledged hf r
  masked s p m _ h hm := attentionLegal_set h fun hf => by
    refine ⟨?_, hf.2⟩
    have hr : m &&& 0xFC00#16 = 0#16 := by simpa [reasonsInRange] using hm
    change m &&& 0xFFFE#16 &&& 0xFC01#16 = 0#16
    rw [BitVec.and_assoc]
    exact hr
  heldLow s h q := by
    simp only [map_get]
    exact h q
  examined s h q := by
    have hs : s.examineTimers.sessions[q].phase = s.sessions[q].phase.mapConn fun c => c.atTick s.timeBase := by
      simp [State.examineTimers, Session.atTick]
    rw [hs]
    exact flagsLegal_mapConn (h q) _
  reset := reset_attentionLegal

/-- Settles O57: R177 and R179 are kept effect by effect. -/
theorem masksAndFlagsStayLegal : Obligations.MasksAndFlagsStayLegal := by
  intro s t hP h hst
  rw [← attentionLegal_iff] at h ⊢
  exact holderOpen_preserved.stepUnder attentionLegal_preserved hP h hst

end Sys2Proof.Proofs

/-! ### Proofs: the queue, the reset pin and time -/

namespace Sys2Proof.Proofs

open Sys2Proof.Machine Sys2Proof.Safety Sys2Proof.Statements Sys2Proof.Laws

-- One proof after another: side by side they take more memory than a check has.
set_option Elab.async false

/-- Settles O1: both are `step` at the two forms of the queue. -/
theorem stepTakesTheFrontCommand : Obligations.StepTakesTheFrontCommand := by
  refine ⟨fun c rest s => rfl, fun s hs => ?_⟩
  simp only [step, hs]

/-! #### RESET_N low (R159, R173) -/

theorem linkError_inReset {s : State} (hr : s.resetN = false) (p : Port) (bytes : List Byte) (o : OutcomeCode)
    (count : Link → Link) : s.linkError p bytes o count = s := by simp [State.linkError, hr]

/-- Settles O11: requests, events and the time base each ask for RESET_N high first. -/
theorem nothingHappensWhileResetIsLow : Obligations.NothingHappensWhileResetIsLow := by
  intro c s hr hassert hrelease hpulse
  cases c with
  | resetNAssert => exact absurd rfl hassert
  | resetNRelease => exact absurd rfl hrelease
  | resetNShortPulse => exact absurd rfl hpulse
  | transactionTooSoon p => rfl
  | tick => rfl
  | poll h => simp [exec, execPoll, hr]
  | badCommand h code args => simp [exec, execBadCommand, hr]
  | timeBaseAdvance => simp [exec, execTimeBaseAdvance, hr]
  | linkTruncated p b => exact congrArg _ (linkError_inReset hr _ _ _ _)
  | linkCrc p b => exact congrArg _ (linkError_inReset hr _ _ _ _)
  | leaseExpiry p k =>
    simp only [exec, execLeaseExpiry, event_inReset _ hr]
    split
    · split <;> rfl
    · rfl
  | pullExpiry p b => simp only [exec, execPullExpiry, event_inReset _ hr, ite_self]
  | claimLapse =>
    simp only [exec, execClaimLapse, event_inReset _ hr, ite_self]
    split <;> rfl
  | silenceExpiry p => simp only [exec, execSilenceExpiry, event_inReset _ hr, ite_self]
  | openSession | close | unfence | resetPort | reserve | write | abandon | submit | take | peek | release | giveBack
  | renew | readBoard | pull | cancelPull | collect | claim | editRule | clearRule | editBoard | readRule
  | readBoarddef | commit | dropClaim | status | ackReasons | setAttention | stats =>
    exact congrArg _ (request_inReset _ _ _ hr)

/-! #### The reset pin (R152, R174) -/

/-- Settles O45: the release replaces every block by its pin-reset state. -/
theorem pinResetRestoresEveryBlock : Obligations.PinResetRestoresEveryBlock := by
  refine fun s => ⟨rfl, s.pinReset, rfl, rfl, rfl, rfl, ?_⟩
  simp [State.reset, Pool.initial, Table.initial, Rule.cleared, clearedRule, BoardDef.initial, Board.blank,
    Queue.initial, Session.initial, Attention.initial, Latched.clear, unlatched, Link.initial, Response.nothingHeld]

/-- Settles O46: the free value of R174 decides between the two outcomes. -/
theorem shortPulseResetsAllOrNothing : Obligations.ShortPulseResetsAllOrNothing := by
  intro s
  refine ⟨_, rfl, ?_⟩
  dsimp only
  split
  · exact .inr rfl
  · exact .inl rfl

/-! #### A microsecond (R154 to R156) -/

theorem timer_atTick_eq (t : Timer) (now : Stamp) : t.atTick now = examined now t := rfl

/-- The tick's examination of every timer, as the statements write it. -/
theorem examineTimers_eq (s : State) :
    s.examineTimers =
      { s with
        queues := s.queues.map fun q =>
          { q with hand := q.hand.map fun o => o.map fun x => { x with lease := examined s.timeBase x.lease } }
        pulls := s.pulls.map fun e =>
          match e.state with
          | .waiting x => { e with state := .waiting (examined s.timeBase x) }
          | .done _ => e
        sessions := s.sessions.map fun x =>
          { x with
            phase := match x.phase with
              | .opened c => .opened { c with silence := c.silence.map (examined s.timeBase) }
              | .closing c => .closing { c with silence := c.silence.map (examined s.timeBase) }
              | .closed => .closed
              | .fenced => .fenced }
        claim := s.claim.map fun c => { c with timer := examined s.timeBase c.timer } } := by
  have hconn : ∀ c : Conn, c.atTick s.timeBase = { c with silence := c.silence.map (examined s.timeBase) } :=
    fun c => rfl
  have hpull : (fun e : Pull => e.atTick s.timeBase) = fun e : Pull =>
      match e.state with
      | .waiting x => { e with state := .waiting (examined s.timeBase x) }
      | .done _ => e := by
    funext e
    obtain ⟨r, b, st⟩ := e
    cases st <;> rfl
  have hsession : (fun x : Session => x.atTick s.timeBase) = fun x : Session =>
      { x with
        phase := match x.phase with
          | .opened c => .opened { c with silence := c.silence.map (examined s.timeBase) }
          | .closing c => .closing { c with silence := c.silence.map (examined s.timeBase) }
          | .closed => .closed
          | .fenced => .fenced } := by
    funext x
    obtain ⟨ph, n⟩ := x
    cases ph <;> simp only [Session.atTick, Phase.mapConn, hconn]
  rw [State.examineTimers, hpull, hsession]
  simp only [Queue.atTick, HandEntry.atTick, Claim.atTick, timer_atTick_eq]

theorem exec_timeBaseAdvance {s : State} (hr : s.resetN = true) : exec .timeBaseAdvance s = .next s.advance := by
  simp [exec, execTimeBaseAdvance, hr]

/-- The tick comes where the phase of the time base returns to 0. -/
theorem tickPhase_succ_eq_zero (k : Fin 1000) : k + 1 = 0 ↔ k = 999 := by
  rw [Fin.ext_iff, Fin.ext_iff, Fin.val_add]
  simp
  omega

theorem advance_between {s : State} (h : s.tickPhase ≠ 999) :
    s.advance = { s with timeBase := s.timeBase + 1#32, tickPhase := s.tickPhase + 1 } := by
  simp only [State.advance, if_neg (mt (tickPhase_succ_eq_zero s.tickPhase).1 h)]

theorem advance_tick {s : State} (h : s.tickPhase = 999) :
    s.advance = ({ s with timeBase := s.timeBase + 1#32, tickPhase := 0 } : State).examineTimers := by
  simp only [State.advance, (tickPhase_succ_eq_zero s.tickPhase).2 h, if_true]

/-- Settles O47: an advance is a tick or none, by the phase of the time base. -/
theorem microsecondAdvancesTheTimeBase : Obligations.MicrosecondAdvancesTheTimeBase := by
  refine ⟨fun s => rfl, fun s hr => ⟨fun h => ?_, fun h => ?_⟩⟩
  · rw [exec_timeBaseAdvance hr, advance_between h]
  · rw [exec_timeBaseAdvance hr, advance_tick h, examineTimers_eq] <;> rfl

/-! #### A lease, microsecond by microsecond -/

theorem advance_resetN (s : State) : s.advance.resetN = s.resetN := by
  simp only [State.advance]
  split <;> rfl

theorem advance_timeBase (s : State) : s.advance.timeBase = s.timeBase + 1#32 := by
  simp only [State.advance]
  split <;> rfl

theorem advance_tickPhase (s : State) : s.advance.tickPhase = s.tickPhase + 1 := by
  simp only [State.advance]
  split <;> rfl

/-- A microsecond examines a lease where it is a tick, and leaves it alone where it is none. -/
theorem advance_lease {s : State} {p : Port} {k : Handle} {e : Entry} {x : Timer}
    (h : s.queues[p].hand[k] = some { entry := e, lease := x }) :
    s.advance.queues[p].hand[k] =
      some { entry := e, lease := if s.tickPhase = 999 then examined (s.timeBase + 1#32) x else x } := by
  by_cases ht : s.tickPhase = 999
  · rw [advance_tick ht, if_pos ht]
    simp only [State.examineTimers, map_get, Queue.atTick, h]
    rfl
  · rw [advance_between ht, if_neg ht]
    exact h

theorem afterMicroseconds_eq {s : State} (hr : s.resetN = true) (n : Nat) :
    afterMicroseconds n s = State.advance^[n] s := by
  induction n generalizing s with
  | zero => rfl
  | succ n ih =>
    rw [afterMicroseconds, exec_timeBaseAdvance hr]
    exact ih (by rw [advance_resetN, hr])

theorem iterate_advance_timeBase (s : State) (n : Nat) :
    (State.advance^[n] s).timeBase = s.timeBase + BitVec.ofNat 32 n := by
  induction n with
  | zero => simp
  | succ n ih =>
    rw [Function.iterate_succ_apply', advance_timeBase, ih, BitVec.ofNat_add, BitVec.add_assoc]

theorem iterate_advance_tickPhase (s : State) (n : Nat) :
    (State.advance^[n] s).tickPhase.val = (s.tickPhase.val + n) % 1000 := by
  induction n with
  | zero => simp [Nat.mod_eq_of_lt]
  | succ n ih =>
    rw [Function.iterate_succ_apply', advance_tickPhase, Fin.val_add, ih]
    simp
    omega

/-- Whether some tick among the first `n` microseconds came `d` milliseconds or more after their start. -/
def tickedAfter (s : State) (d : Half) (n : Nat) : Prop :=
  ∃ m, 1 ≤ m ∧ m ≤ n ∧ (s.tickPhase.val + m) % 1000 = 0 ∧ d.toNat * 1000 ≤ m

theorem tickedAfter_succ (s : State) (d : Half) (n : Nat) :
    tickedAfter s d (n + 1) ↔
      tickedAfter s d n ∨ (s.tickPhase.val + (n + 1)) % 1000 = 0 ∧ d.toNat * 1000 ≤ n + 1 := by
  constructor
  · rintro ⟨m, h1, hn, ht, hd⟩
    rcases Nat.lt_or_ge n m with h | h
    · obtain rfl : m = n + 1 := by omega
      exact .inr ⟨ht, hd⟩
    · exact .inl ⟨m, h1, h, ht, hd⟩
  · rintro (⟨m, h1, hn, ht, hd⟩ | ⟨ht, hd⟩)
    · exact ⟨m, h1, by omega, ht, hd⟩
    · exact ⟨n + 1, by omega, le_rfl, ht, hd⟩

/-- The lease after `n` microseconds: started and lasting as before, and due as the ticks so far decide (R156). -/
theorem iterate_advance_lease {s : State} {p : Port} {k : Handle} {e : Entry} {d : Half}
    (h : s.queues[p].hand[k] = some { entry := e, lease := timer s.timeBase d }) {n : Nat}
    (hn : n < 2 ^ 32) :
    ∃ due : Bool, (State.advance^[n] s).queues[p].hand[k] =
        some { entry := e, lease := { start := s.timeBase, duration := d, due := due } } ∧
      (due = true ↔ tickedAfter s d n) := by
  induction n with
  | zero => exact ⟨false, h, nofun, fun ⟨m, h1, h0, _⟩ => by omega⟩
  | succ n ih =>
    obtain ⟨due, hlease, hdue⟩ := ih (by omega)
    have hphase := iterate_advance_tickPhase s n
    have hstep := advance_lease hlease
    rw [← Function.iterate_succ_apply' State.advance] at hstep
    have htick : (State.advance^[n] s).tickPhase = 999 ↔ (s.tickPhase.val + (n + 1)) % 1000 = 0 := by
      rw [Fin.ext_iff, hphase]
      change _ = 999 ↔ _
      omega
    by_cases ht : (State.advance^[n] s).tickPhase = 999
    · rw [if_pos ht] at hstep
      refine ⟨_, hstep, ?_⟩
      have helapsed : ((State.advance^[n] s).timeBase + 1#32 - s.timeBase).toNat = n + 1 := by
        rw [iterate_advance_timeBase]
        bv_omega
      rw [tickedAfter_succ, ← htick, helapsed, ← hdue]
      simp [ht]
    · rw [if_neg ht] at hstep
      refine ⟨due, hstep, ?_⟩
      rw [tickedAfter_succ, ← htick, hdue]
      simp [ht]

/-- Settles O48, by induction on the microseconds. -/
theorem leaseFallsDueAtItsFirstTick : Obligations.LeaseFallsDueAtItsFirstTick := by
  intro s p k e d n hr h _ hn
  obtain ⟨due, hlease, hdue⟩ := iterate_advance_lease h hn
  refine ⟨{ start := s.timeBase, duration := d, due := due }, ?_, hdue⟩
  rw [afterMicroseconds_eq hr]
  exact hlease

/-! #### The reset state -/

/-- Settles O60: what each invariant's proof says of a pin reset, together. -/
theorem resetStateIsLawful : Obligations.ResetStateIsLawful := by
  have hclosed : closedHoldsNothing State.reset := reset_closedHoldsNothing State.reset
  obtain ⟨hparams, hoccupancy, hcomposing, hredelivery⟩ :=
    (sessionLimits_iff State.reset).1 (reset_sessionLimits State.reset)
  obtain ⟨hbounded, hsupplied⟩ := (pullsLegal_iff State.reset).1 (reset_pullsLegal State.reset)
  obtain ⟨hmasks, hlatches⟩ := (attentionLegal_iff State.reset).1 (reset_attentionLegal State.reset)
  obtain ⟨hwanted, hlines⟩ := reset_settled State.reset
  obtain ⟨-, hboards⟩ := reset_boardsKept State.reset
  exact ⟨reset_freeListExact State.reset, composersOpen_of_closedHoldsNothing hclosed, hcomposing,
    reset_referencesExact State.reset, reset_sequencesUnique State.reset, reset_lanesOrdered State.reset, hoccupancy,
    hboards, hbounded, hsupplied, hwanted, reset_holderOpen State.reset, reset_tableLawful State.reset, hclosed, hmasks,
    hlatches, hlines, hparams, hredelivery, heldInReset_preserved.reset State.reset⟩

end Sys2Proof.Proofs

/-! ### Proofs: the checks of a request, before its action -/

namespace Sys2Proof.Proofs

open Sys2Proof.Machine Sys2Proof.Safety Sys2Proof.Statements Sys2Proof.Laws

-- One proof after another: side by side they take more memory than a check has.
set_option Elab.async false

/-! #### POLL (R168) -/

theorem hear_eq (s : State) (p : Port) :
    s.hear p = { s with sessions := s.sessions.set p { s.sessions[p] with phase := heardPhase s p } } := by
  have h : (s.hear p).sessions = s.sessions.set p { s.sessions[p] with phase := heardPhase s p } := hear_inPhase s p
  rw [← h]
  rfl

/-- Settles O7: POLL hears and does nothing else. -/
theorem pollOnlyRestartsTheSilenceDeadline : Obligations.PollOnlyRestartsTheSilenceDeadline := by
  intro h s hr
  rw [← hear_eq]
  simp [exec, execPoll, hr]

/-! #### Duplicates (R169) -/

/-- Every request of the command table but POLL goes the same way through the link, whatever its action. -/
theorem exec_eq_request {c : Instr} {r : Request} (hk : isKnownRequest c = true) (hr : c.request? = some r) (s : State) :
    ∃ act : Action, exec c s = .next (s.request r.head r.code act) := by
  cases c with
  | poll => cases hk
  | badCommand => cases hk
  | linkTruncated | linkCrc | transactionTooSoon | resetNAssert | resetNRelease | resetNShortPulse | tick | leaseExpiry
  | pullExpiry | claimLapse | silenceExpiry | timeBaseAdvance => cases hr
  | openSession | close | unfence | resetPort | reserve | write | abandon | submit | take | peek | release | giveBack
  | renew | readBoard | pull | cancelPull | collect | claim | editRule | clearRule | editBoard | readRule
  | readBoarddef | commit | dropClaim | status | ackReasons | setAttention | stats =>
    cases hr
    exact ⟨_, rfl⟩

/-- Settles O8: a duplicate is answered from the record before its action is looked at. -/
theorem duplicateIsAnsweredFromTheRecord : Obligations.DuplicateIsAnsweredFromTheRecord := by
  intro c r s hk hr hreset hnumber hcode
  obtain ⟨act, hx⟩ := exec_eq_request hk hr s
  have hd : s.isDuplicate r.head r.code = true :=
    Bool.and_eq_true_iff.2 ⟨decide_eq_true hnumber, decide_eq_true hcode⟩
  refine ⟨_, by rw [hx, request_duplicate act hreset hd], ?_, ?_, by simp; rfl, settle_settled _⟩
  · simp [State.replay, satAdd_eq_raised]
  · exact hear_inPhase s r.head.port

/-! #### The first check (R167) -/

/-- The model's table of argument lengths is that of spec/10 section 10.6. -/
theorem argLengths_eq_lookup : ∀ code : Byte, argLengths code = commandTable.lookup code := by decide +kernel

theorem knownCode_iff (code : Byte) : knownCode code = true ↔ ∃ row ∈ commandTable, row.1 = code := by
  rw [knownCode, argLengths_eq_lookup, List.lookup_isSome_iff]
  simp only [beq_iff_eq]
  simp only [eq_comm]

/-- A length that no row of the table gives the code is not accepted. -/
theorem lengthAccepted_false {code : Byte} {n : Nat}
    (h : ∀ row ∈ commandTable, row.1 = code → n < row.2.1 ∨ row.2.2 < n) : lengthAccepted code n = false := by
  unfold lengthAccepted
  split
  · rename_i lo hi hlen
    rw [argLengths_eq_lookup] at hlen
    obtain ⟨l₁, l₂, htable, -⟩ := List.lookup_eq_some_iff.1 hlen
    have hn : n < lo ∨ hi < n := h (code, lo, hi) (by rw [htable]; exact List.mem_append_right _ List.mem_cons_self) rfl
    simp only [Bool.and_eq_false_iff, decide_eq_false_iff_not]
    omega
  · rfl

/-- A refusal at the first check is executed whatever the link record says. -/
theorem exec_badCommand {s : State} (hr : s.resetN = true) (h : Head) (code : Byte) (args : List Byte) :
    exec (.badCommand h code args) s =
      .next (((s.hear h.port).answer h code
        ⟨if ∃ row ∈ commandTable, row.1 = code then .badLength else .badCommand, []⟩).settle) := by
  simp only [← knownCode_iff]
  simp [exec, execBadCommand, hr, State.execute, refuse, Reply.bare]

/-- Settles O6: the length check reads the command table, and its refusal only answers. -/
theorem firstCheckRefusesAndExecutes : Obligations.FirstCheckRefusesAndExecutes := by
  refine ⟨fun p code num args extra ha h => ?_, fun h code args s hr => ?_⟩
  · rw [commandOf_framed p code num args extra ha, requestOf_none _ _ _ (lengthAccepted_false h)]
    rfl
  · refine ⟨_, exec_badCommand hr h code args, ⟨?_, hear_inPhase s h.port, settle_settled _⟩, by simp⟩
    have hn : forgetsNumber code (if ∃ row ∈ commandTable, row.1 = code then .badLength else .badCommand) = false := by
      split <;> simp [forgetsNumber]
    simpa [hn] using answer_responded (s := s) (u := s.hear h.port) rfl h code
      (if ∃ row ∈ commandTable, row.1 = code then .badLength else .badCommand) []

/-! #### The session check (R136) -/

/-- How a request taken in OPEN only is refused. -/
def openOnly (st : SessionState) : Option OutcomeCode :=
  match st with
  | .closed => some .notOpen
  | .opened => none
  | .closing => some .closing
  | .fenced => some .fenced

/-- How a request taken in OPEN and CLOSING is refused. -/
def inSessionOnly (st : SessionState) : Option OutcomeCode :=
  match st with
  | .closed => some .notOpen
  | .opened => none
  | .closing => none
  | .fenced => some .fenced

section SessionCheck

variable {s : State} {p : Port} {o : OutcomeCode}

theorem whenOpen_refuses (act : Conn → Action) (ho : openOnly (stateOf s.sessions[p].phase) = some o) :
    whenOpen p act (s.hear p) = (⟨o, []⟩, s.hear p) := by
  cases hp : s.sessions[p].phase <;> rw [hp] at ho <;> cases ho
  case closed => simp only [whenOpen, hear_closed hp]; rfl
  case closing => exact whenOpen_closing hp
  case fenced => simp only [whenOpen, hear_fenced hp]; rfl

theorem whenInSession_refuses (act act' : Conn → Action)
    (ho : inSessionOnly (stateOf s.sessions[p].phase) = some o) :
    whenInSession p act act' (s.hear p) = (⟨o, []⟩, s.hear p) := by
  cases hp : s.sessions[p].phase <;> rw [hp] at ho <;> cases ho
  case closed => exact whenInSession_closed hp
  case fenced => exact whenInSession_fenced hp

theorem openAction_refuses (a : OpenArgs)
    (ho : refusedIn (.openSession ⟨p, 0#4⟩ a) (stateOf s.sessions[p].phase) = some o) :
    openAction p a (s.hear p) = (⟨o, []⟩, s.hear p) := by
  cases hp : s.sessions[p].phase <;> rw [hp] at ho <;> cases ho
  case opened => simp only [openAction, hear_opened hp]; rfl
  case closing => simp only [openAction, hear_closing hp]; rfl
  case fenced => simp only [openAction, hear_fenced hp]; rfl

theorem unfenceAction_refuses (ho : refusedIn (.unfence ⟨p, 0#4⟩) (stateOf s.sessions[p].phase) = some o) :
    unfenceAction p (s.hear p) = (⟨o, []⟩, s.hear p) := by
  cases hp : s.sessions[p].phase <;> rw [hp] at ho <;> cases ho
  case closed => simp only [unfenceAction, hear_closed hp]; rfl
  case opened => simp only [unfenceAction, hear_opened hp]; rfl
  case closing => simp only [unfenceAction, hear_closing hp]; rfl

theorem statsGate_refuses (a b : Byte)
    (ho : refusedIn (.stats ⟨p, 0#4⟩ a b) (stateOf s.sessions[p].phase) = some o) :
    statsGate p a b (s.hear p) = (⟨o, []⟩, s.hear p) := by
  cases hp : s.sessions[p].phase <;> rw [hp] at ho <;> cases ho
  case fenced => simp only [statsGate, hear_fenced hp]; rfl

end SessionCheck

/-- What is answered OPEN alone leaves the request's number none, and OPEN only where it is accepted. -/
theorem refusal_keeps_number {code : Byte} {o : OutcomeCode} (h : o ≠ .ok) : forgetsNumber code o = false := by
  simp [forgetsNumber, h]

theorem refusedIn_ne_ok {c : Instr} {st : SessionState} {o : OutcomeCode} (h : refusedIn c st = some o) : o ≠ .ok := by
  rintro rfl
  cases c <;> cases st <;> cases h

/-- Settles O9: the model's session check is the row of the table for each request. -/
theorem sessionStateRefusesWithoutEffect : Obligations.SessionStateRefusesWithoutEffect := by
  intro c r s o hk hr hf ho
  have hn : forgetsNumber r.code o = false := refusal_keeps_number (refusedIn_ne_ok ho)
  cases c with
  | poll => cases hk
  | badCommand => cases hk
  | linkTruncated | linkCrc | transactionTooSoon | resetNAssert | resetNRelease | resetNShortPulse | tick | leaseExpiry
  | pullExpiry | claimLapse | silenceExpiry | timeBaseAdvance => cases hr
  | resetPort | status => cases ho
  | openSession h a => cases hr; exact completes_unchanged rfl hf (openAction_refuses a ho) hn
  | unfence h => cases hr; exact completes_unchanged rfl hf (unfenceAction_refuses ho) hn
  | stats h a b => cases hr; exact completes_unchanged rfl hf (statsGate_refuses a b ho) hn
  | close | release | giveBack | ackReasons | setAttention =>
    cases hr
    exact completes_unchanged rfl hf (whenInSession_refuses _ _ ho) hn
  | reserve | write | abandon | submit | take | peek | renew | readBoard | pull | cancelPull | collect | claim | editRule
  | clearRule | editBoard | readRule | readBoarddef | commit | dropClaim =>
    cases hr
    exact completes_unchanged rfl hf (whenOpen_refuses _ ho) hn

end Sys2Proof.Proofs

/-! ### Proofs: the operands of a request, and the sessions they open -/

namespace Sys2Proof.Proofs

open Sys2Proof.Machine Sys2Proof.Safety Sys2Proof.Statements Sys2Proof.Laws

-- One proof after another: side by side they take more memory than a check has.
set_option Elab.async false

/-! #### The fields of an OPEN (R137) -/

theorem choiceOf_eq_some : ∀ (b : Byte) (c : Bool), choiceOf b = some c ↔ b = if c then 1#8 else 0#8 := by
  decide +kernel

theorem silenceInForce_iff (a : OpenArgs) (limit : Option Half) :
    silenceInForce a.silenceOff a.silence = some limit ↔ silenceGiven a limit := by
  unfold silenceInForce silenceGiven
  split
  · rename_i hoff
    have hoff : a.silenceOff = 1#8 := (choiceOf_eq_some _ true).1 hoff
    by_cases h0 : a.silence = 0#16 <;> simp [hoff, h0]
    exact eq_comm
  · rename_i hoff
    have hoff : a.silenceOff = 0#8 := (choiceOf_eq_some _ false).1 hoff
    split
    · rename_i h0
      simp [hoff, h0]
      exact eq_comm
    · rename_i h0
      split
      · rename_i hlow
        simp [hoff, h0]
        omega
      · rename_i hlow
        simp [hoff, h0, eq_comm]
        omega
  · rename_i hnone
    have h1 : a.silenceOff ≠ 1#8 := fun h => by
      rw [(choiceOf_eq_some _ true).2 h] at hnone
      cases hnone
    have h0 : a.silenceOff ≠ 0#8 := fun h => by
      rw [(choiceOf_eq_some _ false).2 h] at hnone
      cases hnone
    simp [h0, h1]

theorem limitInForce_iff (v : Byte) (default most n : Nat) :
    limitInForce default most v = some n ↔ limitGiven v default most n := by
  unfold limitInForce limitGiven
  have hv : v = 0#8 ↔ v.toNat = 0 := by rw [← BitVec.toNat_inj]; rfl
  split
  · rename_i h0
    have := hv.1 h0
    simp [h0, eq_comm]
  · rename_i h0
    have := mt hv.2 h0
    split
    · simp [h0, eq_comm]
      omega
    · simp [h0]
      omega

/-- An OPEN with a field out of range has no parameters to put in force. -/
theorem connOf_none {h : Head} {a : OpenArgs} (hout : outOfRange (.openSession h a)) (now : Stamp) :
    Machine.connOf a now = none := by
  unfold Machine.connOf
  split
  · rename_i limit depth composing redelivery hs hd hc hr
    exfalso
    rcases hout with hout | hout | hout | hout
    · exact hout ⟨limit, (silenceInForce_iff a limit).1 hs⟩
    · rw [limitInForce_none hout] at hd
      cases hd
    · rw [limitInForce_none hout] at hc
      cases hc
    · rw [limitInForce_none hout] at hr
      cases hr
  · rfl

/-! #### The argument check (R166 step 5) -/

theorem withArgument_of_none {α : Type} {x : Option α} (hx : x = none) (act : α → Action) :
    withArgument x act = refuse .badArgument := by
  rw [hx]
  rfl

/-- Two operands with a range check each, one of them out of range. -/
theorem withArgument_either {α : Type} {x : Option α} {act : α → Action}
    (h : x = none ∨ ∀ a, act a = refuse .badArgument) : withArgument x act = refuse .badArgument := by
  cases x with
  | none => rfl
  | some a => exact h.elim nofun fun ha => ha a

section ArgumentCheck

variable {s : State} {p : Port}

theorem whenOpen_badArgument {act : Conn → Action} (ho : openOnly (stateOf s.sessions[p].phase) = none)
    (ha : ∀ c, act c = refuse .badArgument) : whenOpen p act (s.hear p) = (⟨.badArgument, []⟩, s.hear p) := by
  cases hp : s.sessions[p].phase <;> rw [hp] at ho <;> cases ho
  case opened => rw [whenOpen_opened hp, ha]; rfl

theorem whenInSession_badArgument {act act' : Conn → Action} (ho : inSessionOnly (stateOf s.sessions[p].phase) = none)
    (ha : ∀ c, act c = refuse .badArgument) (ha' : ∀ c, act' c = refuse .badArgument) :
    whenInSession p act act' (s.hear p) = (⟨.badArgument, []⟩, s.hear p) := by
  cases hp : s.sessions[p].phase <;> rw [hp] at ho <;> cases ho
  case opened => rw [whenInSession_opened hp, ha]; rfl
  case closing => rw [whenInSession_closing hp, ha']; rfl

theorem openAction_badArgument {h : Head} {a : OpenArgs}
    (ho : refusedIn (.openSession h a) (stateOf s.sessions[p].phase) = none) (hout : outOfRange (.openSession h a)) :
    openAction p a (s.hear p) = (⟨.badArgument, []⟩, s.hear p) := by
  cases hp : s.sessions[p].phase <;> rw [hp] at ho <;> cases ho
  case closed => simp only [openAction, hear_closed hp, connOf_none hout]; rfl

/-- STATS is taken in every session state but FENCED (R136). -/
theorem statsGate_taken {a b : Byte} (h : s.sessions[p].phase ≠ .fenced) :
    statsGate p a b s =
      withArgument (choiceOf a) (fun cp => withArgument (choiceOf b) fun ch => statsAction p cp ch) s := by
  unfold statsGate
  split
  · exact absurd ‹_› h
  · rfl

theorem statsGate_badArgument {h : Head} {a b : Byte}
    (ho : refusedIn (.stats h a b) (stateOf s.sessions[p].phase) = none) (hout : 1 < a.toNat ∨ 1 < b.toNat) :
    statsGate p a b (s.hear p) = (⟨.badArgument, []⟩, s.hear p) := by
  have hp : s.sessions[p].phase ≠ .fenced := fun hp => by
    rw [hp] at ho
    cases ho
  rw [statsGate_taken (hear_not_fenced hp),
    withArgument_either (hout.imp choiceOf_none fun hb _ => withArgument_of_none (choiceOf_none hb) _)]
  rfl

end ArgumentCheck

/-! #### The forms of rules and board definitions (R121) -/

theorem laneOf_none {b : Byte} (h : 1 < b.toNat) : laneOf b = none := by
  unfold laneOf
  split
  · omega
  · omega
  · rfl

theorem policyOf_none {b : Byte} (h : 2 < b.toNat) : policyOf b = none := by
  unfold policyOf
  split
  · omega
  · omega
  · omega
  · rfl

theorem ruleClassOf_none {r : RuleImage}
    (h : 1 < r.cls.toNat ∨ (r.cls = 0#8 ∧ (1 < r.lane.toNat ∨ 2 < r.policy.toNat)) ∨
      (r.cls = 1#8 ∧ 31 < r.board.toNat)) : ruleClassOf r = none := by
  unfold ruleClassOf
  rcases h with h | ⟨hc, h | h⟩ | ⟨hc, h⟩
  · split
    · omega
    · omega
    · rfl
  · rw [hc, laneOf_none h]
    rfl
  · rw [hc, policyOf_none h]
    cases laneOf r.lane <;> rfl
  · rw [hc, indexOf_none h]
    rfl

theorem ruleOf_none {r : RuleImage}
    (h : 1 < r.cls.toNat ∨ (r.cls = 0#8 ∧ (1 < r.lane.toNat ∨ 2 < r.policy.toNat)) ∨
      (r.cls = 1#8 ∧ 31 < r.board.toNat)) : ruleOf r = none := by
  rw [ruleOf, ruleClassOf_none h]
  rfl

theorem boardDefOf_none {b : BoardImage} (h : b.pullTimeout = 0#16 ∨ (3 < b.supplier.toNat ∧ b.supplier ≠ 0xFF#8)) :
    boardDefOf b = none := by
  unfold boardDefOf
  rcases h with h | ⟨hlarge, hff⟩
  · rw [if_pos h]
  · rw [supplierOf, if_neg hff, indexOf_none hlarge]
    simp

/-- Settles O10: each request's own argument check, on the state that heard it. -/
theorem operandsOutOfRangeAreRefused : Obligations.OperandsOutOfRangeAreRefused := by
  intro c r s hk hr hf ho hout
  have hn : forgetsNumber r.code .badArgument = false := refusal_keeps_number nofun
  cases c with
  | poll => cases hk
  | badCommand => cases hk
  | linkTruncated | linkCrc | transactionTooSoon | resetNAssert | resetNRelease | resetNShortPulse | tick | leaseExpiry
  | pullExpiry | claimLapse | silenceExpiry | timeBaseAdvance => cases hr
  | resetPort | status | close | unfence | reserve | abandon | take | peek | claim | commit | dropClaim => cases hout
  | openSession h a => cases hr; exact completes_unchanged rfl hf (openAction_badArgument ho hout) hn
  | stats h a b => cases hr; exact completes_unchanged rfl hf (statsGate_badArgument ho hout) hn
  | write h slot offset data =>
    cases hr
    refine completes_unchanged rfl hf (whenOpen_badArgument ho fun c => withArgument_of_none ?_ _) hn
    exact if_neg (Nat.not_le.2 hout)
  | submit h slot tag length =>
    cases hr
    exact completes_unchanged rfl hf (whenOpen_badArgument ho fun c => withArgument_of_none (indexOf_none hout) _) hn
  | release h handle n =>
    cases hr
    exact completes_unchanged rfl hf (whenInSession_badArgument ho
      (fun c => withArgument_of_none (indexOf_none hout) _) fun c => withArgument_of_none (indexOf_none hout) _) hn
  | giveBack h handle n =>
    cases hr
    exact completes_unchanged rfl hf (whenInSession_badArgument ho
      (fun c => withArgument_of_none (indexOf_none hout) _) fun c => withArgument_of_none (indexOf_none hout) _) hn
  | renew | readBoard | pull | cancelPull | collect | clearRule =>
    cases hr
    exact completes_unchanged rfl hf (whenOpen_badArgument ho fun c => withArgument_of_none (indexOf_none hout) _) hn
  | editRule h index rule =>
    cases hr
    exact completes_unchanged rfl hf (whenOpen_badArgument ho fun c => withArgument_either
      (hout.imp indexOf_none fun hout _ => withArgument_of_none (ruleOf_none hout) _)) hn
  | editBoard h index board =>
    cases hr
    exact completes_unchanged rfl hf (whenOpen_badArgument ho fun c => withArgument_either
      (hout.imp indexOf_none fun hout _ => withArgument_of_none (boardDefOf_none hout) _)) hn
  | readRule h index selector =>
    cases hr
    exact completes_unchanged rfl hf (whenOpen_badArgument ho fun c => withArgument_either
      (hout.imp indexOf_none fun hout _ => withArgument_of_none (selectorOf_none hout) _)) hn
  | readBoarddef h index selector =>
    cases hr
    exact completes_unchanged rfl hf (whenOpen_badArgument ho fun c => withArgument_either
      (hout.imp indexOf_none fun hout _ => withArgument_of_none (selectorOf_none hout) _)) hn
  | ackReasons h reasons =>
    cases hr
    obtain ⟨k, h10, h15, hk⟩ := hout
    have hnone := reasonsOf_none h10 h15 hk
    exact completes_unchanged rfl hf (whenInSession_badArgument ho
      (fun c => withArgument_of_none hnone _) fun c => withArgument_of_none hnone _) hn
  | setAttention h mask =>
    cases hr
    obtain ⟨k, h10, h15, hk⟩ := hout
    have hnone := reasonsOf_none h10 h15 hk
    exact completes_unchanged rfl hf (whenInSession_badArgument ho
      (fun c => withArgument_of_none hnone _) fun c => withArgument_of_none hnone _) hn

end Sys2Proof.Proofs

/-! ### Proofs: sessions that start and end -/

namespace Sys2Proof.Proofs

open Sys2Proof.Machine Sys2Proof.Safety Sys2Proof.Statements Sys2Proof.Laws

-- One proof after another: side by side they take more memory than a check has.
set_option Elab.async false

/-! #### OPEN (R137 to R139) -/

/-- The parameters an OPEN puts in force, as the statements give them. -/
def connGiven (a : OpenArgs) (now : Stamp) (limit : Option Half) (depth composing redelivery : Nat) : Conn where
  lease := if a.lease = 0#16 then 1000#16 else a.lease
  silence := limit.map (timer now)
  depth := depth
  composing := composing
  redelivery := redelivery

theorem connOf_given {a : OpenArgs} {limit : Option Half} {depth composing redelivery : Nat}
    (hs : silenceGiven a limit) (hd : limitGiven a.depth 32 128 depth) (hc : limitGiven a.composing 4 16 composing)
    (hr : limitGiven a.redelivery 3 7 redelivery) (now : Stamp) :
    Machine.connOf a now = some (connGiven a now limit depth composing redelivery) := by
  rw [Machine.connOf, (silenceInForce_iff a limit).2 hs, (limitInForce_iff _ _ _ _).2 hd,
    (limitInForce_iff _ _ _ _).2 hc, (limitInForce_iff _ _ _ _).2 hr]
  rfl

theorem bytes_connGiven (a : OpenArgs) (now : Stamp) (limit : Option Half) (depth composing redelivery : Nat) :
    (connGiven a now limit depth composing redelivery).bytes =
      le 2 (if a.lease = 0#16 then 1000#16 else a.lease).toNat ++ le 2 (limit.getD 0#16).toNat ++
        [if limit = none then 1#8 else 0#8, BitVec.ofNat 8 depth, BitVec.ofNat 8 composing,
          BitVec.ofNat 8 redelivery] := by
  rw [Conn.bytes, halfBytes_eq, halfBytes_eq]
  cases limit <;> rfl

theorem openAction_closed {s : State} {p : Port} {a : OpenArgs} {c : Conn} (hp : s.sessions[p].phase = .closed)
    (hc : Machine.connOf a s.timeBase = some c) :
    openAction p a (s.hear p) = (⟨.ok, c.bytes⟩, (s.hear p).opened p c) := by
  simp only [openAction, hear_closed hp, State.hear_timeBase, hc]
  rfl

theorem map_set_at {α β : Type} (f : α → β) (v : PerPort α) (p : Port) (x : α) :
    (v.set p x).map f = (v.map f).set p (f x) := Vector.map_set (h := p.isLt)

/-- An opened session clears the port's latched flags and enables every reason (R138, R179). -/
theorem blocks_opened (s : State) (p : Port) (c : Conn) :
    blocks (s.opened p c) =
      { blocks s with
        latched := (s.attention.map fun x => x.latched).set p unlatched
        mask := (s.attention.map fun x => x.mask).set p 0x03FE#16 } := by
  apply Blocks.ext
  case latched => exact map_set_at Attention.latched _ p _
  case mask => exact map_set_at Attention.mask _ p _
  all_goals rfl

/-- Settles O12: the parameters are in range, so the session check is all that OPEN needs. -/
theorem openStartsASession : Obligations.OpenStartsASession := by
  intro h a s limit depth composing redelivery hf hp hs hd hc hr
  refine completes_of_action rfl hf (openAction_closed hp (connOf_given hs hd hc hr s.timeBase)) ⟨?_, ?_, ?_, settle_settled _⟩
  · have hresp := answer_responded (s := s)
      (u := (s.hear h.port).opened h.port (connGiven a s.timeBase limit depth composing redelivery)) rfl h 0x01#8 .ok
      (connGiven a s.timeBase limit depth composing redelivery).bytes
    rw [if_pos (by rfl), bytes_connGiven] at hresp
    rw [bytes_connGiven]
    exact hresp
  · simp [State.opened, connGiven]
  · rw [blocks_settle, blocks_answer, blocks_opened]
    rfl

/-! #### UNFENCE (R149) -/

theorem unfenceAction_fenced {s : State} {p : Port} (hp : s.sessions[p].phase = .fenced) :
    unfenceAction p (s.hear p) = (⟨.ok, []⟩, (s.hear p).setPhase p .closed) := by
  simp only [unfenceAction, hear_fenced hp]
  rfl

/-- Settles O14: UNFENCE writes the session state alone. -/
theorem unfenceClosesAFencedPort : Obligations.UnfenceClosesAFencedPort := by
  intro h s hf hp
  obtain ⟨t, ht, hresp, hphase, hset, hb⟩ := completes_closed (c := .unfence h) rfl hf (unfenceAction_fenced hp) rfl
    rfl rfl
  exact ⟨t, ht, hresp, hphase, hb, hset⟩

/-! #### RESET_PORT (R150) -/

/-- The hand of a CLOSING port discarded, block by block (R148, R150). -/
theorem blocks_discardHand (s : State) (p : Port) : blocks (s.discardHand p) = Statements.handDiscarded s p := by
  apply Blocks.ext
  case pool =>
    refine (State.discardHand_pool s p).trans (after_eq_poolAfter fun i => ?_)
    rw [dropAll_get, iterate_dropped_eq_afterDrops, handEntries_eq, ← count_slots_eq_naming, List.map_map]
    rfl
  case queues =>
    refine (State.discardHand_queues s p).trans ?_
    rw [handCount_eq, satAdd_eq_raised]
    rfl
  case latched => exact map_set_at Attention.latched _ p _
  case mask =>
    have hm : (s.attention.map fun a => a.mask).set p s.attention[p].mask = s.attention.map fun a => a.mask := by
      simpa using Vector.set_getElem_self (xs := s.attention.map fun a => a.mask) (i := p.val) p.isLt
    exact (map_set_at Attention.mask _ p _).trans hm
  all_goals rfl

/-- The blocks after what RESET_PORT takes back in each session state. -/
theorem blocks_resetShare (s : State) (p : Port) :
    blocks ((s.hear p).resetShare p) =
      match s.sessions[p].phase with
      | .opened _ => tornBlocks s p true
      | .closing _ => Statements.handDiscarded s p
      | .closed => blocks s
      | .fenced => blocks s := by
  unfold State.resetShare
  cases hp : s.sessions[p].phase with
  | opened c => rw [hear_opened hp]; exact blocks_teardown_hear s p true .closed
  | closing c => rw [hear_closing hp]; exact blocks_discardHand (s.hear p) p
  | closed => rw [hear_closed hp]; rfl
  | fenced => rw [hear_fenced hp]; rfl

theorem resetShare_links (s : State) (p : Port) : (s.resetShare p).links = s.links := by
  unfold State.resetShare
  split
  · exact State.teardown_links s p true
  · exact State.discardHand_links s p
  · rfl
  · rfl

theorem resetShare_sessions (s : State) (p : Port) : (s.resetShare p).sessions = s.sessions := by
  unfold State.resetShare
  split
  · exact State.teardown_sessions s p true
  · exact State.discardHand_sessions s p
  · rfl
  · rfl

theorem resetPortAction_eq (s : State) (p : Port) :
    resetPortAction p (s.hear p) =
      (⟨.ok, [match s.sessions[p].phase with
          | .closed => 0#8
          | .opened _ => 1#8
          | .closing _ => 2#8
          | .fenced => 3#8,
          BitVec.ofNat 8 (handSize s.queues[p])]⟩, ((s.hear p).resetShare p).setPhase p .closed) := by
  rw [resetPortAction, stateAndCount, State.hear_queues, handCount_eq, hear_phase]
  cases s.sessions[p].phase <;> rfl

/-- Settles O15: RESET_PORT asks for no session state, and its share follows the one it finds. -/
theorem resetPortClosesFromEveryState : Obligations.ResetPortClosesFromEveryState := by
  intro h s hf
  have hphase : InPhase (s.hear h.port) (((s.hear h.port).resetShare h.port).setPhase h.port .closed) h.port .closed := by
    rw [InPhase, State.setPhase_sessions, resetShare_sessions]
  obtain ⟨t, ht, hresp, hphase, hset, hb⟩ := completes_closed (c := .resetPort h) rfl hf (resetPortAction_eq s h.port)
    rfl (resetShare_links _ _) hphase
  exact ⟨t, ht, hresp, hphase, hb.trans (blocks_resetShare s h.port), hset⟩

/-! #### The silence expiry (R141) -/

theorem silenceDue_eq {s : State} {p : Port} {c : Conn} {x : Timer} (hc : connOf s.sessions[p].phase = some c)
    (hx : c.silence = some x) : s.silenceDue p = x.due := by
  rw [← conn_eq] at hc
  simp only [State.silenceDue, hc, hx]

theorem silenceDue_false {s : State} {p : Port}
    (h : ∀ (c : Conn) (x : Timer), connOf s.sessions[p].phase = some c → c.silence = some x → x.due = false) :
    s.silenceDue p = false := by
  cases hc : connOf s.sessions[p].phase with
  | none =>
    rw [← conn_eq] at hc
    simp only [State.silenceDue, hc]
  | some c =>
    cases hx : c.silence with
    | some x => rw [silenceDue_eq hc hx, h c x hc hx]
    | none =>
      rw [← conn_eq] at hc
      simp only [State.silenceDue, hc, hx]

/-- Settles O16: a due silence timer is the only thing the expiry asks for. -/
theorem silenceExpiryFencesThePort : Obligations.SilenceExpiryFencesThePort := by
  refine fun p s hr => ⟨fun c x hc hx hdue => ?_, fun h => ?_⟩
  · have hd : s.silenceDue p = true := (silenceDue_eq hc hx).trans hdue
    refine ⟨(s.fence p).settle, ?_, by simp, ?_, ?_, settle_settled _⟩
    · simp only [exec, execSilenceExpiry, hd, if_true, event_taken _ hr]
    · simp [InPhase]
    · rw [blocks_settle, State.fence, blocks_setPhase, blocks_teardown]
  · simp [exec, execSilenceExpiry, silenceDue_false h]

end Sys2Proof.Proofs

/-! ### Proofs: the Slot Pool's requests -/

namespace Sys2Proof.Proofs

open Sys2Proof.Machine Sys2Proof.Safety Sys2Proof.Statements Sys2Proof.Laws

-- One proof after another: side by side they take more memory than a check has.
set_option Elab.async false

/-! #### RESERVE (R5, R6) -/

section Reserve

variable {s : State} {p : Port} {c : Conn}

theorem reserveAction_limit (hn : s.pool.composingCount p = c.composing) :
    reserveAction p c s = (⟨.composeLimit, []⟩, s) := by
  rw [reserveAction, if_pos hn]
  rfl

theorem reserveAction_empty (hn : s.pool.composingCount p ≠ c.composing) (hl : s.pool.freeList = []) :
    reserveAction p c s =
      (⟨.poolEmpty, []⟩, s.setPool { s.pool with poolEmpty := raised s.pool.poolEmpty 1 }) := by
  rw [reserveAction, if_neg hn, hl, satAdd_eq_raised]
  rfl

theorem reserveAction_takes {i : SlotIx} {rest : List SlotIx} (hn : s.pool.composingCount p ≠ c.composing)
    (hl : s.pool.freeList = i :: rest) :
    reserveAction p c s =
      (⟨.ok, [BitVec.ofNat 8 i.val, BitVec.ofNat 8 rest.length]⟩,
        s.setPool { s.pool with
          slots := s.pool.slots.set i (.composing p (Vector.replicate 64 0#8))
          freeList := rest }) := by
  rw [reserveAction, if_neg hn, hl]
  rfl

end Reserve

/-- Settles O17: the count is below the limit and the free list has a head. -/
theorem reserveTakesTheHeadOfTheFreeList : Obligations.ReserveTakesTheHeadOfTheFreeList := by
  intro h s c i rest hf hc hn hl
  rw [← composingCount_eq] at hn
  exact completes_in_open rfl hf hc (reserveAction_takes (s := s.hear h.port) hn hl) rfl rfl rfl rfl

/-! #### WRITE and ABANDON (R8, R10) -/

section Composing

variable {s : State} {p : Port} {slot : SlotIx} {payload : Payload}

theorem writeAction_composing (offset : Nat) (data : List Byte) (hs : s.pool.slots[slot] = .composing p payload) :
    writeAction p slot offset data s =
      (⟨.ok, []⟩,
        s.setPool { s.pool with slots := s.pool.slots.set slot (.composing p (payload.store offset data)) }) := by
  rw [writeAction, hs]
  exact if_pos rfl

/-- A slot that is not the requester's composition is none for WRITE. -/
theorem writeAction_other (offset : Nat) (data : List Byte)
    (hs : ∀ payload, s.pool.slots[slot] ≠ .composing p payload) :
    writeAction p slot offset data s = (⟨.notYourSlot, []⟩, s) := by
  unfold writeAction
  split
  · rename_i owner payload ho
    rw [if_neg (fun (he : owner = p) => hs payload (he ▸ ho))]
    rfl
  · rfl
  · rfl

/-- What a WRITE leaves of a payload: its data from the offset on (R8). -/
theorem store_written (payload : Payload) {offset : Nat} {data : List Byte} {k : Fin 64} {b : Byte}
    (hk : offset ≤ k.val) (hb : data[k.val - offset]? = some b) : (payload.store offset data)[k] = b := by
  rw [Payload.store, ofFn_get, if_pos hk, hb]
  rfl

theorem store_kept (payload : Payload) {offset : Nat} {data : List Byte} {k : Fin 64}
    (hk : k.val < offset ∨ offset + data.length ≤ k.val) : (payload.store offset data)[k] = payload[k] := by
  rw [Payload.store, ofFn_get]
  split
  · rw [List.getElem?_eq_none (by omega)]
    rfl
  · rfl

theorem writeOffset_some {offset : Byte} {data : List Byte} (h : offset.toNat + data.length ≤ 64) :
    writeOffset offset data = some offset.toNat := if_pos h

/-- A freed composition is the only slot that the event frees (R4, R10). -/
theorem after_abandoned {pl : Pool} (hs : pl.slots[slot] = .composing p payload) :
    pl.after (pl.slots.set slot .free) =
      { pl with slots := pl.slots.set slot .free, freeList := pl.freeList ++ [slot] } := by
  have hnew : newlyFree pl.slots (pl.slots.set slot .free) = [slot] := by
    have hone : (List.finRange 256).filter (fun i => decide (i = slot)) = [slot] := by
      rw [← List.filter_congr fun i _ => show (i == slot) = decide (i = slot) from rfl, List.filter_beq,
        List.count_eq_one_of_mem (List.nodup_finRange _) (List.mem_finRange _)]
      rfl
    rw [newlyFree, ← hone]
    refine List.filter_congr fun i _ => ?_
    rw [set_get]
    by_cases hi : i = slot
    · subst hi
      rw [hs, if_pos rfl]
      simp [Slot.isFree]
    · simp [hi]
  rw [Pool.after, hnew]

theorem abandonAction_composing (hs : s.pool.slots[slot] = .composing p payload) :
    abandonAction p slot s =
      (⟨.ok, []⟩, s.setPool { s.pool with
        slots := s.pool.slots.set slot .free
        freeList := s.pool.freeList ++ [slot] }) := by
  rw [abandonAction, if_pos (by rw [hs]; exact decide_eq_true rfl), after_abandoned hs]
  rfl

theorem abandonAction_other (hs : ∀ payload, s.pool.slots[slot] ≠ .composing p payload) :
    abandonAction p slot s = (⟨.notYourSlot, []⟩, s) := by
  rw [abandonAction, if_neg]
  · rfl
  · intro hc
    obtain ⟨payload, hp⟩ := composedBy_iff.1 hc
    exact hs payload hp

end Composing

/-- Settles O18: both requests find the slot in COMPOSING by the requester. -/
theorem composingSlotsAreWrittenAndAbandoned : Obligations.ComposingSlotsAreWrittenAndAbandoned := by
  refine fun h s c slot payload hc hs => ⟨fun offset data hf hrange => ?_, fun hf => ?_⟩
  · have ha : withArgument (writeOffset offset data) (fun off => writeAction h.port slot off data) (s.hear h.port) =
        (⟨.ok, []⟩, (s.hear h.port).setPool { s.pool with
          slots := s.pool.slots.set slot (.composing h.port (payload.store offset.toNat data)) }) := by
      rw [writeOffset_some hrange]
      exact writeAction_composing (s := s.hear h.port) offset.toNat data hs
    obtain ⟨t, ht, hexec, hb⟩ := completes_in_open (i := .write h slot offset data) rfl hf hc ha rfl rfl rfl rfl
    exact ⟨t, ht, hexec, payload.store offset.toNat data, fun k b => store_written payload,
      fun k => store_kept payload, hb⟩
  · exact completes_in_open rfl hf hc (abandonAction_composing (s := s.hear h.port) hs) rfl rfl rfl rfl

end Sys2Proof.Proofs

/-! ### Proofs: routing and submission -/

namespace Sys2Proof.Proofs

open Sys2Proof.Machine Sys2Proof.Safety Sys2Proof.Statements Sys2Proof.Laws

-- One proof after another: side by side they take more memory than a check has.
set_option Elab.async false

/-! #### Matching (R23 to R25) -/

theorem applies_iff (r : Rule) (tag : Half) (author : Port) :
    r.applies tag author = true ↔ passes r tag author := by
  rw [Rule.applies, Bool.and_eq_true, Bool.and_eq_true, tagTest_iff, and_assoc]
  rfl

theorem govern_none_iff (t : Table) (tag : Half) (author : Port) :
    t.govern tag author = none ↔ ∀ i : RuleIx, ¬passes t.rules[i] tag author := by
  simp only [Table.govern, toList_finRange, List.find?_map, Option.map_eq_none_iff, List.find?_eq_none,
    List.mem_finRange, true_implies, Function.comp_apply, ← applies_iff]

theorem governs_of_govern {t : Table} {tag : Half} {author : Port} {r : Rule} (h : t.govern tag author = some r) :
    governs t tag author r := by
  obtain ⟨i, hi, happlies, hbefore⟩ := govern_some h
  refine ⟨i, hi, (applies_iff _ _ _).1 happlies, fun j hj hp => ?_⟩
  have hj' := hbefore j hj
  rw [(applies_iff _ _ _).2 hp] at hj'
  cases hj'

/-- Two rules cannot both be the first that passes. -/
theorem governs_unique {t : Table} {tag : Half} {author : Port} {r r' : Rule} (h : governs t tag author r)
    (h' : governs t tag author r') : r = r' := by
  obtain ⟨i, rfl, hi, hbefore⟩ := h
  obtain ⟨j, rfl, hj, hbefore'⟩ := h'
  rcases lt_trichotomy i j with hlt | rfl | hlt
  · exact absurd hi (hbefore' i hlt)
  · rfl
  · exact absurd hj (hbefore j hlt)

theorem govern_some_iff (t : Table) (tag : Half) (author : Port) (r : Rule) :
    t.govern tag author = some r ↔ governs t tag author r := by
  refine ⟨governs_of_govern, fun h => ?_⟩
  cases hg : t.govern tag author with
  | some r' => rw [governs_unique (governs_of_govern hg) h]
  | none =>
    obtain ⟨i, rfl, hi, -⟩ := h
    exact absurd hi ((govern_none_iff t tag author).1 hg i)

/-- Settles O20: the search takes the first rule that applies. -/
theorem firstPassingRuleGoverns : Obligations.FirstPassingRuleGoverns := fun t tag author =>
  ⟨govern_some_iff t tag author, govern_none_iff t tag author⟩

/-! #### The destination set (R27, R46, R49) -/

theorem filterOpen_eq (s : State) (r : Rule) (author : Port) :
    s.filterOpen (r.destinations author) = Vector.ofFn fun q : Port => inSet s r author q := by
  simp only [State.filterOpen, Rule.destinations, ofFn_get, isOpen_eq]
  rfl

theorem isFull_eq (s : State) (q : Port) : s.isFull q = full s q := by
  unfold State.isFull full
  cases s.sessions[q].phase <;> simp only [occupancy_eq]

theorem fullPorts_eq (s : State) (r : Rule) (author : Port) :
    s.fullPorts (s.filterOpen (r.destinations author)) =
      Vector.ofFn fun q : Port => inSet s r author q && full s q := by
  simp only [State.fullPorts, filterOpen_eq, ofFn_get, isFull_eq]

theorem undeliveredPorts_eq (s : State) (r : Rule) (author : Port) :
    s.undeliveredPorts (r.destinations author) = absent s r author := by
  simp only [State.undeliveredPorts, Rule.destinations, ofFn_get, isOpen_eq]
  rfl

/-- Hearing a request changes no destination set and no depth limit. -/
theorem inSet_hear (s : State) (p : Port) (r : Rule) (author q : Port) :
    inSet (s.hear p) r author q = inSet s r author q := by
  rw [inSet, inSet, ← isOpen_eq, ← isOpen_eq, hear_isOpen]

theorem full_hear (s : State) (p q : Port) : full (s.hear p) q = full s q := by
  unfold full
  rw [State.hear_queues]
  by_cases hq : q = p
  · subst hq
    rw [hear_phase]
    cases s.sessions[q].phase <;> rfl
  · rw [hear_phase_other s hq]

theorem absent_hear (s : State) (p : Port) (r : Rule) (author : Port) :
    absent (s.hear p) r author = absent s r author := by
  simp only [absent, ← isOpen_eq, hear_isOpen]

/-! #### SUBMIT up to its delivery (R39, R40) -/

section Submit

variable {s : State} {p : Port} {slot : SlotIx} {payload : Payload} {tag : Half} {n : Seq} {r : Rule}

theorem submitAction_other (tag : Half) (length : Fin 65) (hs : ∀ payload, s.pool.slots[slot] ≠ .composing p payload) :
    submitAction p slot tag length s = (⟨.notYourSlot, []⟩, s) := by
  unfold submitAction
  split
  · rename_i owner payload ho
    rw [if_neg (fun (he : owner = p) => hs payload (he ▸ ho))]
    rfl
  · rfl
  · rfl

theorem submitAction_exhausted (tag : Half) (length : Fin 65) (hs : s.pool.slots[slot] = .composing p payload)
    (hn : s.sequence = .exhausted) : submitAction p slot tag length s = (⟨.sequenceExhausted, []⟩, s) := by
  simp only [submitAction, hs, if_true, hn]
  rfl

theorem submitAction_noRoute (length : Fin 65) (hs : s.pool.slots[slot] = .composing p payload)
    (hn : s.sequence = .next n) (hr : ∀ i : RuleIx, ¬passes s.table.rules[i] tag p) :
    submitAction p slot tag length s = (⟨.noRoute, []⟩, s) := by
  simp only [submitAction, hs, if_true, hn, (govern_none_iff s.table tag p).2 hr]
  rfl

theorem submitAction_routed (length : Fin 65) (hs : s.pool.slots[slot] = .composing p payload)
    (hn : s.sequence = .next n) (hr : governs s.table tag p r) :
    submitAction p slot tag length s =
      submitRouted { author := p, slot := slot, tag := tag, length := length, rule := r, sequence := n } payload s := by
  simp only [submitAction, hs, if_true, hn, (govern_some_iff s.table tag p r).2 hr]

end Submit

section Routed

variable {s : State} {x : Posting} {lane : Lane}

theorem submitRouted_full (payload : Payload) (hc : x.rule.cls = .queued lane .refuse)
    (hf : ∃ q : Port, inSet s x.rule x.author q = true ∧ full s q = true) :
    submitRouted x payload s =
      (⟨.queueFull, [portsByte fun q => inSet s x.rule x.author q && full s q]⟩, s) := by
  have hne : portCount (s.fullPorts (s.filterOpen (x.rule.destinations x.author))) ≠ 0 := by
    obtain ⟨q, hin, hfull⟩ := hf
    refine (portCount_ne_zero _).2 ⟨q, ?_⟩
    rw [fullPorts_eq, ofFn_get, hin, hfull]
    rfl
  simp only [submitRouted, hc, submitQueued]
  rw [if_pos ⟨trivial, hne⟩, fullPorts_eq, portSetByte_eq]

theorem submitRouted_queued {policy : FullPolicy} (payload : Payload) (hc : x.rule.cls = .queued lane policy)
    (hf : policy = .refuse → ∀ q : Port, inSet s x.rule x.author q = true → full s q = false)
    {ds : PerPort Delivery}
    (hds : s.deliveries (s.filterOpen (x.rule.destinations x.author)) policy
      { slot := x.slot, sequence := x.sequence, lane := lane, redelivery := 0 } = ds) :
    submitRouted x payload s =
      (⟨.ok, submitContent x.sequence 0#8 (deliveredSet ds) 0xFF#8⟩, s.acceptQueued x payload ds) := by
  have hroom : ¬(policy = .refuse ∧ portCount (s.fullPorts (s.filterOpen (x.rule.destinations x.author))) ≠ 0) := by
    rintro ⟨hp, hne⟩
    obtain ⟨q, hq⟩ := (portCount_ne_zero _).1 hne
    rw [fullPorts_eq, ofFn_get, Bool.and_eq_true] at hq
    obtain ⟨hin, hfull⟩ := hq
    rw [hf hp q hin] at hfull
    cases hfull
  simp only [submitRouted, hc, submitQueued]
  rw [if_neg hroom, hds]

theorem submitRouted_board {b : BoardIx} (payload : Payload) (hc : x.rule.cls = .board b) :
    submitRouted x payload s =
      (⟨.ok, submitContent x.sequence 1#8 (s.filterOpen (x.rule.destinations x.author)) (boardByte b)⟩,
        s.acceptBoard x payload b (s.filterOpen (x.rule.destinations x.author))) := by
  simp only [submitRouted, hc, submitBoard]

end Routed

/-- A SUBMIT of an OPEN port whose length is in range reaches the Routing Unit. -/
theorem submit_in_range {h : Head} {s u : State} {slot : SlotIx} {tag : Half} {length : Byte} {len : Fin 65}
    {o : OutcomeCode} {content : List Byte} (hlen : length.toNat = len.val)
    (ha : submitAction h.port slot tag len (s.hear h.port) = (⟨o, content⟩, u)) :
    withArgument (indexOf 65 length) (fun len => submitAction h.port slot tag len) (s.hear h.port) =
      (⟨o, content⟩, u) := by
  rw [indexOf_some hlen, withArgument_some, ha]

/-- Settles O19: each refusal is the first check that fails. -/
theorem poolAndRoutingRefusals : Obligations.PoolAndRoutingRefusals := by
  intro h s c hc
  refine ⟨fun hf hn => ?_, fun hf hn hl => ?_, fun slot hs => ⟨fun offset data hf hrange => ?_, fun hf => ?_,
    fun tag length hf hlen => ?_⟩, fun slot payload tag length hf hlen hs => ⟨fun hn => ?_, fun n hn =>
      ⟨fun hr => ?_, fun r lane hr hcls hfull => ?_⟩⟩⟩
  · rw [← composingCount_eq] at hn
    exact completes_in_open rfl hf hc (reserveAction_limit (s := s.hear h.port) hn) rfl rfl rfl rfl
  · rw [← composingCount_eq] at hn
    exact completes_in_open rfl hf hc (reserveAction_empty (s := s.hear h.port) hn hl) rfl rfl rfl rfl
  · refine completes_in_open (i := .write h slot offset data) (u := s.hear h.port) rfl hf hc ?_ rfl rfl rfl rfl
    rw [writeOffset_some hrange]
    exact writeAction_other (s := s.hear h.port) offset.toNat data hs
  · exact completes_in_open rfl hf hc (abandonAction_other (s := s.hear h.port) hs) rfl rfl rfl rfl
  · exact completes_in_open (i := .submit h slot tag length) rfl hf hc
      (submit_in_range (len := ⟨length.toNat, by omega⟩) rfl (submitAction_other (s := s.hear h.port) tag _ hs))
      rfl rfl rfl rfl
  · exact completes_in_open (i := .submit h slot tag length) rfl hf hc
      (submit_in_range (len := ⟨length.toNat, by omega⟩) rfl
        (submitAction_exhausted (s := s.hear h.port) tag _ hs hn)) rfl rfl rfl rfl
  · exact completes_in_open (i := .submit h slot tag length) rfl hf hc
      (submit_in_range (len := ⟨length.toNat, by omega⟩) rfl
        (submitAction_noRoute (s := s.hear h.port) _ hs hn hr)) rfl rfl rfl rfl
  · have hfull' : ∃ q : Port, inSet (s.hear h.port) r h.port q = true ∧ full (s.hear h.port) q = true := by
      simpa only [inSet_hear, full_hear] using hfull
    have ha := (submitAction_routed (s := s.hear h.port) ⟨length.toNat, by omega⟩ hs hn hr).trans
      (submitRouted_full payload hcls hfull')
    simp only [inSet_hear, full_hear] at ha
    exact completes_in_open (i := .submit h slot tag length) rfl hf hc
      (submit_in_range (len := ⟨length.toNat, by omega⟩) rfl ha) rfl rfl rfl rfl

end Sys2Proof.Proofs

/-! ### Proofs: delivery to queues and boards -/

namespace Sys2Proof.Proofs

open Sys2Proof.Machine Sys2Proof.Safety Sys2Proof.Statements Sys2Proof.Laws

-- One proof after another: side by side they take more memory than a check has.
set_option Elab.async false

/-! #### One destination (R49 to R53) -/

/-- The entry evicted and the queue without it are the ones the statements name (R52). -/
theorem evict_eq (q : Queue) (l : Lane) : q.evict l = (oldest q l).map fun e => (e, withoutOldest q l) := by
  obtain ⟨u, n, hand, o, d, x⟩ := q
  cases l <;> cases u <;> cases n <;> rfl

theorem append_eq_withEntry (q : Queue) (e : Entry) : q.append e = withEntry q e := append_eq q e

theorem eq_ofFn {α : Type} {v : PerPort α} {g : Port → α} (h : ∀ q : Port, v[q] = g q) : v = Vector.ofFn g := by
  ext i hi
  simpa using h ⟨i, hi⟩

/-- A delivery at a port of the filtered destination set, as the statements write it: the queue after it, whether the
port receives, what it gives up and whether it loses a message. -/
theorem delivery_eq (s : State) (r : Rule) (author q : Port) (f : FullPolicy) (e : Entry) :
    (s.deliveries (s.filterOpen (r.destinations author)) f e)[q] =
      { queue := queueAfter s r author q f e
        delivered := receives s r author q e.lane f
        evicted := if evicts s r author q e.lane f then (oldest s.queues[q] e.lane).map fun e => e.slot else none
        lost := inSet s r author q && full s q } := by
  rw [deliveries_get, filterOpen_eq, ofFn_get, isFull_eq]
  unfold queueAfter receives evicts
  generalize s.queues[q] = q₀
  cases inSet s r author q with
  | false => simp
  | true =>
    cases full s q with
    | false => simp [deliver_room, append_eq_withEntry]
    | true =>
      cases f with
      | refuse => simp [Queue.deliver, Queue.skip, overflowed, satAdd_eq_raised]
      | dropNew => simp [Queue.deliver, Queue.skip, overflowed, satAdd_eq_raised]
      | dropOldest =>
        cases ho : oldest q₀ e.lane with
        | none => simp [ho, Queue.deliver, evict_eq, Queue.skip, overflowed, satAdd_eq_raised]
        | some old => simp [ho, Queue.deliver, evict_eq, overflowed, satAdd_eq_raised, append_eq_withEntry]

/-! #### What acceptance makes of a state (R42, R47, R55) -/

theorem counterAfter_eq (n : Seq) : SequenceCounter.after n = counterAfter n := by
  unfold SequenceCounter.after counterAfter
  have h : n = BitVec.allOnes 48 ↔ n.toNat = 2 ^ 48 - 1 := by
    rw [← BitVec.toNat_inj, BitVec.toNat_allOnes]
  simp only [h]

theorem message_eq_posted (s : State) (x : Posting) (payload : Payload) (kind : Kind) (k : Nat) :
    x.message payload s.timeBase kind k =
      posted s x.author payload x.length x.tag x.rule x.sequence kind k := by
  simp only [Posting.message, posted, Rule.routeTag]
  cases x.rule.rewrite <;> rfl

theorem slotAfter_eq (s : State) (x : Posting) (payload : Payload) (kind : Kind) (k : Nat) :
    x.slotAfter payload s.timeBase kind k =
      if k = 0 then .free else .live (posted s x.author payload x.length x.tag x.rule x.sequence kind k) := by
  rw [Posting.slotAfter, message_eq_posted]

theorem submitContent_eq (n : Seq) (cls : Byte) (f : Port → Bool) (board : Byte) :
    submitContent n cls (Vector.ofFn f) board = le 6 n.toNat ++ [cls, portsByte f, board] := by
  rw [submitContent, sequenceBytes_eq, portSetByte_eq]

/-- The deliveries of a QUEUED posting. -/
def deliveriesOf (s : State) (x : Posting) (lane : Lane) (f : FullPolicy) : PerPort Delivery :=
  s.deliveries (s.filterOpen (x.rule.destinations x.author)) f
    { slot := x.slot, sequence := x.sequence, lane := lane, redelivery := 0 }

theorem deliveredSet_eq (s : State) (x : Posting) (lane : Lane) (f : FullPolicy) :
    deliveredSet (deliveriesOf s x lane f) = Vector.ofFn fun q : Port => receives s x.rule x.author q lane f := by
  refine eq_ofFn fun q => ?_
  rw [deliveredSet, map_get, deliveriesOf, delivery_eq]

theorem lost_eq (s : State) (x : Posting) (lane : Lane) (f : FullPolicy) (q : Port) :
    (deliveriesOf s x lane f)[q].lost = (inSet s x.rule x.author q && full s q) := by
  rw [deliveriesOf, delivery_eq]

theorem portCount_ofFn (f : Port → Bool) : portCount (Vector.ofFn f) = (List.finRange 4).countP f := by
  rw [portCount, toList_countP]
  simp

/-- Each slot loses the references of the entries evicted (R52). -/
theorem count_evicted_eq (s : State) (x : Posting) (lane : Lane) (f : FullPolicy) (i : SlotIx) :
    (evictedSlots (deliveriesOf s x lane f)).count i = evictionsOf s x.rule x.author lane f i := by
  rw [evictedSlots_count, evictionsOf]
  refine List.countP_congr fun q _ => ?_
  rw [deliveriesOf, delivery_eq]
  cases evicts s x.rule x.author q lane f <;> simp

/-- A QUEUED acceptance, block by block. -/
theorem blocks_acceptQueued (s : State) (x : Posting) (payload : Payload) (lane : Lane) (f : FullPolicy) :
    blocks (s.acceptQueued x payload (deliveriesOf s x lane f)) =
      { blocks s with
        pool := poolAfter s.pool fun i =>
          let deliveries := (List.finRange 4).countP fun q => receives s x.rule x.author q lane f
          let sl : Slot :=
            if i = x.slot then
              if deliveries = 0 then .free
              else .live (posted s x.author payload x.length x.tag x.rule x.sequence .queued deliveries)
            else s.pool.slots[i]
          afterDrops sl (evictionsOf s x.rule x.author lane f i)
        queues := Vector.ofFn fun q : Port => queueAfter s x.rule x.author q f
          { slot := x.slot, sequence := x.sequence, lane := lane, redelivery := 0 }
        sequence := counterAfter x.sequence
        undelivered := raised s.undelivered (absent s x.rule x.author)
        latched := Vector.ofFn fun q : Port =>
          if inSet s x.rule x.author q && full s q then { s.attention[q].latched with overflow := true }
          else s.attention[q].latched } := by
  apply Blocks.ext
  case pool =>
    refine after_eq_poolAfter fun i => ?_
    rw [dropAll_get, iterate_dropped_eq_afterDrops, count_evicted_eq, set_get, slotAfter_eq, deliveredSet_eq,
      portCount_ofFn]
  case queues =>
    refine eq_ofFn fun q => ?_
    have hq := delivery_eq s x.rule x.author q f
      { slot := x.slot, sequence := x.sequence, lane := lane, redelivery := 0 }
    rw [blocks, acceptQueued_queues, map_get, deliveriesOf, hq]
  case sequence => exact counterAfter_eq x.sequence
  case undelivered =>
    refine (satAdd_eq_raised _ _).trans ?_
    rw [undeliveredPorts_eq]
  case latched =>
    refine eq_ofFn fun q => ?_
    rw [blocks, map_get, acceptQueued_latched, lost_eq, apply_ite Attention.latched]
  case mask =>
    refine Vector.ext fun i hi => ?_
    have hm : (s.acceptQueued x payload (deliveriesOf s x lane f)).attention[(⟨i, hi⟩ : Port)].mask =
        s.attention[(⟨i, hi⟩ : Port)].mask := by
      rw [acceptQueued_latched]
      split <;> rfl
    simpa [blocks] using hm
  all_goals rfl

/-! #### On the state that heard the request -/

section Heard

variable (s : State) (p : Port) (r : Rule) (author q : Port) (l : Lane) (f : FullPolicy)

theorem evicts_hear : evicts (s.hear p) r author q l f = evicts s r author q l f := by
  rw [evicts, evicts, inSet_hear, full_hear, State.hear_queues]

theorem receives_hear : receives (s.hear p) r author q l f = receives s r author q l f := by
  rw [receives, receives, inSet_hear, full_hear, evicts_hear]

theorem queueAfter_hear (e : Entry) : queueAfter (s.hear p) r author q f e = queueAfter s r author q f e := by
  rw [queueAfter, queueAfter, inSet_hear, full_hear, evicts_hear, State.hear_queues]

theorem evictionsOf_hear (i : SlotIx) : evictionsOf (s.hear p) r author l f i = evictionsOf s r author l f i := by
  refine List.countP_congr fun q _ => ?_
  rw [evicts_hear, State.hear_queues]

end Heard

/-- Settles O21: the delivery at each destination, and the slot and counters that acceptance moves with them. -/
theorem queuedSubmissionDelivers : Obligations.QueuedSubmissionDelivers := by
  intro h s c slot tag length len payload n r lane f hf hc hlen hs hn hr hcls hroom
  have hroom' : f = .refuse → ∀ q : Port, inSet (s.hear h.port) r h.port q = true → full (s.hear h.port) q = false := by
    simpa only [inSet_hear, full_hear] using hroom
  let x : Posting := { author := h.port, slot := slot, tag := tag, length := len, rule := r, sequence := n }
  have ha := (submitAction_routed (s := s.hear h.port) len hs hn hr).trans
    (submitRouted_queued (x := x) payload hcls hroom' rfl)
  have hb := blocks_acceptQueued (s.hear h.port) x payload lane f
  have hset := deliveredSet_eq (s.hear h.port) x lane f
  simp only [inSet_hear, full_hear, receives_hear, queueAfter_hear, evictionsOf_hear, absent_hear] at hb hset
  rw [show (s.hear h.port).deliveries ((s.hear h.port).filterOpen (x.rule.destinations x.author)) f
    { slot := x.slot, sequence := x.sequence, lane := lane, redelivery := 0 } = deliveriesOf (s.hear h.port) x lane f
    from rfl, hset, submitContent_eq] at ha
  exact completes_in_open (i := .submit h slot tag length) rfl hf hc (submit_in_range hlen ha) rfl rfl rfl hb

/-! #### BOARD submissions (R58, R88, R89, R106) -/

theorem waitsOn_eq (e : Pull) (b : BoardIx) : e.waitsOn b = (decide (e.board = b) && waits e) := by
  rw [Pull.waitsOn, isWaiting_eq, Bool.and_comm]

theorem satisfyPulls_eq (pulls : List Pull) (b : BoardIx) (n : Seq) :
    satisfyPulls pulls b n =
      pulls.map fun e => if e.board = b ∧ waits e = true then { e with state := .done (.satisfied n) } else e := by
  refine List.map_congr_left fun e _ => ?_
  simp only [waitsOn_eq, Bool.and_eq_true, decide_eq_true_eq]
  rfl

/-- An overwrite count rises to 255 and stays there (R89). -/
theorem satByte_eq (c : Byte) : satByte c = if c = 255#8 then 255#8 else c + 1#8 := by
  revert c
  decide +kernel

/-- The ports a BOARD submission marks (R88, R89). -/
def markedBy (s : State) (r : Rule) (author : Port) (b : BoardIx) (q : Port) : Bool :=
  inSet s r author q || s.pulls.any fun e => decide (e.requester = q) && decide (e.board = b) && waits e

theorem marked_eq (s : State) (r : Rule) (author : Port) (b : BoardIx) (q : Port) :
    ((s.filterOpen (r.destinations author))[q] || s.waitsFor q b) = markedBy s r author b q := by
  rw [filterOpen_eq, ofFn_get, State.waitsFor, markedBy]
  simp only [waitsOn_eq, Bool.and_assoc]

/-- A BOARD acceptance, block by block. -/
theorem blocks_acceptBoard (s : State) (x : Posting) (payload : Payload) (b : BoardIx) :
    blocks (s.acceptBoard x payload b (s.filterOpen (x.rule.destinations x.author))) =
      { blocks s with
        pool := poolAfter s.pool fun i =>
          let sl : Slot := if i = x.slot then
              .live (posted s x.author payload x.length x.tag x.rule x.sequence .boarded 1)
            else s.pool.slots[i]
          afterDrops sl (if s.boards[b].held = some i then 1 else 0)
        boards := s.boards.set b
          { held := some x.slot
            lastSequence := x.sequence
            unread := Vector.ofFn fun q : Port => s.boards[b].unread[q] || markedBy s x.rule x.author b q
            overwrites := Vector.ofFn fun q : Port =>
              if markedBy s x.rule x.author b q && s.boards[b].unread[q] then
                (if s.boards[b].overwrites[q] = 255#8 then 255#8 else s.boards[b].overwrites[q] + 1#8)
              else s.boards[b].overwrites[q] }
        pulls := s.pulls.map fun e =>
          if e.board = b ∧ waits e = true then { e with state := .done (.satisfied x.sequence) } else e
        sequence := counterAfter x.sequence
        undelivered := raised s.undelivered (absent s x.rule x.author) } := by
  apply Blocks.ext
  case pool =>
    refine after_eq_poolAfter fun i => ?_
    have hcount : s.boards[b].held.toList.count i = if s.boards[b].held = some i then 1 else 0 := by
      cases s.boards[b].held with
      | none => rfl
      | some j => simp [List.count_singleton]
    rw [dropAll_get, iterate_dropped_eq_afterDrops, set_get, slotAfter_eq, hcount]
    rfl
  case boards =>
    refine congrArg (s.boards.set b) ?_
    simp only [Board.updated, marked_eq, ofFn_get, satByte_eq]
  case pulls => exact satisfyPulls_eq s.pulls b x.sequence
  case sequence => exact counterAfter_eq x.sequence
  case undelivered =>
    refine (satAdd_eq_raised _ _).trans ?_
    rw [undeliveredPorts_eq]
  all_goals rfl

theorem markedBy_hear (s : State) (p : Port) (r : Rule) (author : Port) (b : BoardIx) (q : Port) :
    markedBy (s.hear p) r author b q = markedBy s r author b q := by
  rw [markedBy, markedBy, inSet_hear, State.hear_pulls]

/-- Settles O22: the board's record, its pulls and the slots it names, as the acceptance writes them. -/
theorem boardSubmissionReplacesTheValue : Obligations.BoardSubmissionReplacesTheValue := by
  intro h s c slot tag length len payload n r b hf hc hlen hs hn hr hcls
  let x : Posting := { author := h.port, slot := slot, tag := tag, length := len, rule := r, sequence := n }
  have ha := (submitAction_routed (s := s.hear h.port) len hs hn hr).trans
    (submitRouted_board (x := x) payload hcls)
  have hb := blocks_acceptBoard (s.hear h.port) x payload b
  simp only [markedBy_hear, absent_hear] at hb
  rw [show submitContent x.sequence 1#8 ((s.hear h.port).filterOpen (x.rule.destinations x.author)) (boardByte b) =
    le 6 n.toNat ++ [1#8, portsByte fun q => inSet s r h.port q, BitVec.ofNat 8 b.val] by
      rw [filterOpen_eq, submitContent_eq]
      simp only [inSet_hear]
      rfl] at ha
  exact completes_in_open (i := .submit h slot tag length) rfl hf hc (submit_in_range hlen ha) rfl rfl rfl hb

end Sys2Proof.Proofs

/-! ### Proofs: taking, releasing and the expiry of leases -/

namespace Sys2Proof.Proofs

open Sys2Proof.Machine Sys2Proof.Safety Sys2Proof.Statements Sys2Proof.Laws

-- One proof after another: side by side they take more memory than a check has.
set_option Elab.async false

/-! #### TAKE (R66) -/

/-- The queue without its next entry is the one the statements name. -/
theorem popNext_of_nextIs {q rest : Queue} {e : Entry} (h : nextIs q e rest) : q.popNext = rest := by
  rcases h with ⟨es, hu, rfl⟩ | ⟨es, hu, hn, rfl⟩
  · exact (nextEntry_urgent hu).2
  · exact (nextEntry_normal hu hn).2

theorem hand_of_nextIs {q rest : Queue} {e : Entry} (h : nextIs q e rest) : rest.hand = q.hand := by
  rcases h with ⟨es, -, rfl⟩ | ⟨es, -, -, rfl⟩ <;> rfl

section Take

variable {s : State} {p : Port} {c : Conn} {k : Handle}

theorem takeAction_full (hk : ∀ k : Handle, s.queues[p].hand[k] ≠ none) :
    takeAction p c s = (⟨.handFull, []⟩, s) := by
  have hl : s.queues[p].lowestFree = none :=
    List.find?_eq_none.2 fun k _ => by rw [Option.isNone_iff_eq_none]; exact hk k
  simp only [takeAction, hl]
  rfl

theorem takeAction_empty (hk : ∃ k : Handle, s.queues[p].hand[k] = none) (hu : s.queues[p].urgent = [])
    (hn : s.queues[p].normal = []) : takeAction p c s = (⟨.empty, []⟩, s) := by
  obtain ⟨k, hk⟩ := hk
  obtain ⟨k', hl⟩ : ∃ k', s.queues[p].lowestFree = some k' := by
    refine Option.isSome_iff_exists.1 (List.find?_isSome.2 ⟨k, List.mem_finRange k, ?_⟩)
    rw [hk]
    rfl
  simp only [takeAction, hl, nextEntry_empty hu hn]
  rfl

theorem takeAction_takes {e : Entry} {rest : Queue} {m : Message} (hk : s.queues[p].hand[k] = none)
    (hj : ∀ j : Handle, j < k → s.queues[p].hand[j] ≠ none) (hnext : nextIs s.queues[p] e rest)
    (hm : s.pool.slots[e.slot] = .live m) :
    takeAction p c s =
      (⟨.ok, record (BitVec.ofNat 8 k.val) e.slot e.sequence (laneCode e.lane) (BitVec.ofNat 8 e.redelivery) m ++
          m.payload.toList.take m.length.val⟩,
        s.setQueue p { rest with hand := rest.hand.set k (some { entry := e, lease := timer s.timeBase c.lease }) }) := by
  simp only [takeAction, lowestFree_some hk hj, nextEntry_of_nextIs hnext, entryRecord_live _ hm, message_live hm,
    Queue.takeInto, popNext_of_nextIs hnext, hand_of_nextIs hnext]
  rfl

end Take

/-- Settles O23: the lowest free handle takes the next entry. -/
theorem takeMovesTheNextEntryToTheHand : Obligations.TakeMovesTheNextEntryToTheHand := by
  intro h s c k e rest m hf hc hk hj hnext hm
  exact completes_in_open rfl hf hc (takeAction_takes (s := s.hear h.port) (c := c.heard s.timeBase) hk hj hnext hm) rfl
    rfl rfl (blocks_setQueue _ _ _)

/-! #### RELEASE (R69, R70, R147) -/

section Named

variable {s : State} {p : Port} {handle : Byte} {k : Handle} {n : Seq}

/-- A request in session is taken in OPEN and CLOSING alike. -/
theorem whenInSession_both {c : Conn} {act : Action} (hc : connOf s.sessions[p].phase = some c) :
    whenInSession p (fun _ => act) (fun _ => act) (s.hear p) = act (s.hear p) := by
  cases hp : s.sessions[p].phase <;> rw [hp] at hc <;> cases hc
  case opened => exact whenInSession_opened hp
  case closing => exact whenInSession_closing hp

theorem releaseAction_named {c : Conn} {x : HandEntry} (hc : connOf s.sessions[p].phase = some c)
    (hk : handle.toNat = k.val) (hx : s.queues[p].hand[k] = some x) (hn : x.entry.sequence = n) :
    releaseAction p handle n (s.hear p) = (⟨.ok, []⟩, ((s.hear p).endHandEntry p k x.entry).drained p) := by
  rw [releaseAction, whenInSession_both hc]
  exact namedEntry_acts (s := s.hear p) hk hx hn

/-- A position that is free or holds another sequence is stale for RELEASE, RETURN and RENEW (R69). -/
theorem staleEntry_refused {act : Handle → HandEntry → Action} (hk : handle.toNat = k.val)
    (hx : ∀ x, s.queues[p].hand[k] = some x → x.entry.sequence ≠ n) :
    withArgument (indexOf 4 handle) (fun k => withHandEntry p k n (act k)) s = (⟨.staleHandle, []⟩, s) := by
  rw [indexOf_some hk, withArgument_some, withHandEntry_stale hx]
  rfl

theorem whenInSession_stale {act act' : Conn → Action} {o : OutcomeCode}
    (hc : (connOf s.sessions[p].phase).isSome = true) (ha : ∀ c, act c (s.hear p) = (⟨o, []⟩, s.hear p))
    (ha' : ∀ c, act' c (s.hear p) = (⟨o, []⟩, s.hear p)) :
    whenInSession p act act' (s.hear p) = (⟨o, []⟩, s.hear p) := by
  cases hp : s.sessions[p].phase with
  | opened => rw [whenInSession_opened hp, ha]
  | closing => rw [whenInSession_closing hp, ha']
  | closed => rw [hp] at hc; cases hc
  | fenced => rw [hp] at hc; cases hc

end Named

theorem opened_of_openAt {s : State} {p : Port} (h : openAt s p = true) : ∃ c, s.sessions[p].phase = .opened c :=
  opened_of_isOpen ((isOpen_eq s p).trans h)

/-- Settles O25: the first check that fails answers, and its answer is all. -/
theorem queueRefusalsChangeNothing : Obligations.QueueRefusalsChangeNothing := by
  refine fun h s => ⟨fun c hc => ⟨fun hf hk => ?_, fun hu hn hf hk => ?_⟩, fun handle k n hk hx =>
    ⟨fun hc => ⟨fun hf => ?_, fun hf => ?_⟩, fun ho hf => ?_⟩⟩
  · exact completes_in_open rfl hf hc (takeAction_full (s := s.hear h.port) hk) rfl rfl rfl rfl
  · exact completes_in_open rfl hf hc (takeAction_empty (s := s.hear h.port) hk hu hn) rfl rfl rfl rfl
  · exact completes_unchanged (c := .release h handle n) rfl hf (whenInSession_stale hc
      (fun _ => staleEntry_refused (s := s.hear h.port) hk hx) fun _ => staleEntry_refused (s := s.hear h.port) hk hx) rfl
  · exact completes_unchanged (c := .giveBack h handle n) rfl hf (whenInSession_stale hc
      (fun _ => staleEntry_refused (s := s.hear h.port) hk hx) fun _ => staleEntry_refused (s := s.hear h.port) hk hx) rfl
  · obtain ⟨c, hc⟩ := opened_of_openAt ho
    exact completes_in_open (i := .renew h handle n) rfl hf hc (staleEntry_refused (s := s.hear h.port) hk hx) rfl rfl
      rfl rfl

/-! #### A hand entry that ends, block by block -/

/-- A hand entry ended: its position free, its reference dropped. -/
theorem blocks_endHandEntry (s : State) (p : Port) (k : Handle) (e : Entry) :
    blocks (s.endHandEntry p k e) = endedBlocks s p k e id := by
  simp [blocks, endedBlocks, drop_one_eq_poolLess, Queue.freeHandle]

theorem endHandEntry_handCount (s : State) (p : Port) (k : Handle) (e : Entry) :
    (s.endHandEntry p k e).queues[p].handCount = 0 ↔ lastInHand s p k := by
  rw [State.endHandEntry_queues, set_get_self, freeHandle_handCount, lastInHand]

/-- Settles O26, by whether the hand drains: never in OPEN, in CLOSING with its last entry. -/
theorem releaseEndsTheEntry : Obligations.ReleaseEndsTheEntry := by
  refine fun h s handle k n x hf hk hx hn => ⟨fun c hc => ?_, fun c hc hl => ?_⟩
  · have hconn : connOf s.sessions[h.port].phase = some c := by
      rcases hc with hc | ⟨hc, -⟩ <;> rw [hc] <;> rfl
    have hstays : ((s.hear h.port).endHandEntry h.port k x.entry).drained h.port =
        (s.hear h.port).endHandEntry h.port k x.entry := by
      rcases hc with hc | ⟨hc, hl⟩
      · exact drained_of_opened (hear_opened hc)
      · exact drained_eq_self fun h0 => hl ((lastInHand_hear _ _ _ _).1 ((endHandEntry_handCount _ _ _ _).1 h0))
    have ha := releaseAction_named hconn hk hx hn
    rw [hstays] at ha
    obtain ⟨t, ht, hexec, hb⟩ := completes_executed (c := .release h handle n) rfl hf ha rfl rfl rfl
    exact ⟨t, ht, hexec, hb.trans (blocks_endHandEntry _ _ _ _)⟩
  · have ha := releaseAction_named (congrArg Statements.connOf hc) hk hx hn
    have hphase : ((s.hear h.port).endHandEntry h.port k x.entry).sessions[h.port].phase =
        .closing (c.heard s.timeBase) := hear_closing hc
    rw [drained_eq_closed hphase ((endHandEntry_handCount _ _ _ _).2 ((lastInHand_hear _ _ _ _).2 hl))] at ha
    obtain ⟨t, ht, hresp, hphase, hset, hb⟩ := completes_closed (c := .release h handle n) rfl hf ha rfl rfl rfl
    refine ⟨t, ht, hresp, hphase, hset, hb.trans ?_⟩
    rw [blocks_closed_clear, blocks_endHandEntry]
    rfl

/-! #### Lease expiry (R74, R75) -/

/-- An event inside the hub completes in the state its effect leaves, settled. -/
theorem completes_event {c : Instr} {s u : State} {f : State → State} {P : State → Prop}
    (hx : exec c s = .next (s.event f)) (hr : s.resetN = true) (hu : f s = u) (hP : P u.settle) : Completes c s P :=
  ⟨_, by rw [hx, event_taken f hr, hu], hP⟩

theorem exec_leaseExpiry_due {s : State} {p : Port} {k : Handle} {x : HandEntry} (hx : s.queues[p].hand[k] = some x)
    (hd : x.lease.due = true) : exec (.leaseExpiry p k) s = .next (s.event fun s => s.lapse p k x.entry) := by
  simp only [exec, execLeaseExpiry, hx, hd, if_true]

theorem exec_leaseExpiry_not_due {s : State} {p : Port} {k : Handle} {x : HandEntry}
    (hx : s.queues[p].hand[k] = some x) (hd : x.lease.due = false) : exec (.leaseExpiry p k) s = .next s := by
  simp only [exec, execLeaseExpiry, hx, hd, Bool.false_eq_true, if_false]

theorem map_mask_set (a : PerPort Attention) (p : Port) (l : Latched) :
    (a.set p { a[p] with latched := l }).map (fun a => a.mask) = a.map fun a => a.mask := by
  refine (map_set_at Attention.mask a p _).trans ?_
  simpa using Vector.set_getElem_self (xs := a.map fun a => a.mask) (i := p.val) p.isLt

/-- The state after a lease expiry that discards: both counters raised, DISCARDED latched (R74, R75). -/
def lapseDiscarded (s : State) (p : Port) (k : Handle) (x : HandEntry) : State :=
  entryEnded s p k x (raised s.queues[p].discard 1) (raised s.queues[p].expiry 1) (s.latchDiscarded p).attention

theorem discardLapsed_eq (s : State) (p : Port) (k : Handle) (x : HandEntry) (r : Nat) :
    (s.countExpiry p).discardLapsed p k { x.entry with redelivery := r } = lapseDiscarded s p k x := by
  rw [entryEnded_of_discardLapsed, satAdd_eq_raised, satAdd_eq_raised, lapseDiscarded]

theorem blocks_lapseDiscarded (s : State) (p : Port) (k : Handle) (x : HandEntry) :
    blocks (lapseDiscarded s p k x) =
      { endedBlocks s p k x.entry fun q =>
          { q with expiry := raised q.expiry 1, discard := raised q.discard 1 } with
        latched := (s.attention.map fun a => a.latched).set p
          { s.attention[p].latched with discarded := true } } := by
  apply Blocks.ext
  case pool => exact drop_one_eq_poolLess s.pool x.entry
  case latched => exact map_set_at Attention.latched _ p _
  case mask => exact map_mask_set s.attention p _
  all_goals rfl

/-- The same, with the session that ends clearing the flag again (R147). -/
theorem blocks_lapseDiscarded_closed (s : State) (p : Port) (k : Handle) (x : HandEntry) :
    blocks (((lapseDiscarded s p k x).setPhase p .closed).setLatched p .clear) =
      { endedBlocks s p k x.entry fun q =>
          { q with expiry := raised q.expiry 1, discard := raised q.discard 1 } with
        latched := (s.attention.map fun a => a.latched).set p unlatched } := by
  have hl : ((lapseDiscarded s p k x).attention.map fun a => a.latched).set p unlatched =
      (s.attention.map fun a => a.latched).set p unlatched := by
    rw [show ((lapseDiscarded s p k x).attention.map fun a => a.latched) = _ from map_set_at Attention.latched _ p _,
      Vector.set_set]
  rw [blocks_closed_clear, blocks_lapseDiscarded, hl]

theorem lapseDiscarded_handCount (s : State) (p : Port) (k : Handle) (x : HandEntry) :
    (lapseDiscarded s p k x).queues[p].handCount = 0 ↔ lastInHand s p k := by
  have hq : (lapseDiscarded s p k x).queues[p] =
      { s.queues[p].freeHandle k with
        discard := raised s.queues[p].discard 1, expiry := raised s.queues[p].expiry 1 } := by
    rw [lapseDiscarded, entryEnded, set_get_self]
  rw [hq, lastInHand, ← freeHandle_handCount]
  rfl

/-- In OPEN below the limit the entry goes back to its lane (R74). -/
theorem lapse_redelivers {s : State} {p : Port} {c : Conn} (hc : s.sessions[p].phase = .opened c) (k : Handle)
    {e : Entry} (hlow : e.redelivery + 1 < c.redelivery) :
    s.lapse p k e =
      s.setQueue p (({ s.queues[p] with expiry := raised s.queues[p].expiry 1 }.freeHandle k).putBack
        { e with redelivery := e.redelivery + 1 }) := by
  rw [State.lapse, hc, ← satAdd_eq_raised]
  simp only [State.lapseOpen, if_pos hlow]
  simp [State.countExpiry, State.setQueue]

theorem lapse_discards {s : State} {p : Port} {c : Conn} (hc : s.sessions[p].phase = .opened c) (k : Handle)
    {x : HandEntry} (hlimit : x.entry.redelivery + 1 = c.redelivery) :
    s.lapse p k x.entry = lapseDiscarded s p k x := by
  rw [State.lapse, hc]
  simp only [State.lapseOpen, if_neg (not_lt.2 hlimit.ge)]
  exact discardLapsed_eq s p k x _

theorem lapse_closing {s : State} {p : Port} {c : Conn} (hc : s.sessions[p].phase = .closing c) (k : Handle)
    (x : HandEntry) : s.lapse p k x.entry = (lapseDiscarded s p k x).drained p := by
  rw [State.lapse, hc]
  exact congrArg (fun u => u.drained p) (discardLapsed_eq s p k x x.entry.redelivery)

/-- Settles O29, by the session state and the redelivery count, as R74 and R75 go. -/
theorem leaseExpiryRedeliversOrDiscards : Obligations.LeaseExpiryRedeliversOrDiscards := by
  refine fun p k s x hr hx => ⟨exec_leaseExpiry_not_due hx, fun hd c hc => ⟨fun hlow => ?_, fun hlimit => ?_⟩,
    fun hd c hc => ⟨fun hl => ?_, fun hl => ?_⟩⟩
  · refine completes_event (exec_leaseExpiry_due hx hd) hr (lapse_redelivers hc k hlow)
      ⟨rfl, rfl, settle_settled _, _, queueTakesBack_putBack _ k _, ?_⟩
    rw [blocks_settle, blocks_setQueue]
  · refine completes_event (exec_leaseExpiry_due hx hd) hr (lapse_discards hc k hlimit)
      ⟨rfl, rfl, settle_settled _, ?_⟩
    rw [blocks_settle, blocks_lapseDiscarded]
    rfl
  · have hstays := drained_eq_self fun h0 => hl ((lapseDiscarded_handCount s p k x).1 h0)
    refine completes_event (exec_leaseExpiry_due hx hd) hr ((lapse_closing hc k x).trans hstays)
      ⟨rfl, rfl, settle_settled _, ?_⟩
    rw [blocks_settle, blocks_lapseDiscarded]
  · have hphase : (lapseDiscarded s p k x).sessions[p].phase = .closing c := hc
    have hends := drained_eq_closed hphase ((lapseDiscarded_handCount s p k x).2 hl)
    refine completes_event (exec_leaseExpiry_due hx hd) hr ((lapse_closing hc k x).trans hends)
      ⟨rfl, rfl, settle_settled _, ?_⟩
    rw [blocks_settle, blocks_lapseDiscarded_closed]

end Sys2Proof.Proofs

/-! ### Proofs: boards read and pulls made -/

namespace Sys2Proof.Proofs

open Sys2Proof.Machine Sys2Proof.Safety Sys2Proof.Statements Sys2Proof.Laws

-- One proof after another: side by side they take more memory than a check has.
set_option Elab.async false

/-! #### Index operands -/

/-- A request whose index operand is in range acts on what the index names. -/
theorem indexed_acts {n : Nat} {byte : Byte} {i : Fin n} (h : byte.toNat = i.val) (act : Fin n → Action) :
    withArgument (indexOf n byte) act = act i := by
  rw [indexOf_some h, withArgument_some]

theorem ofNat_of_index {byte : Byte} {i : Nat} (h : byte.toNat = i) : BitVec.ofNat 8 i = byte := by
  rw [← h, BitVec.ofNat_toNat, BitVec.setWidth_eq]

/-! #### READ_BOARD (R91, R92) -/

section ReadBoard

variable {s : State} {p : Port} {b : BoardIx}

theorem readBoardAction_disabled (he : s.table.boards[b].enabled = false) :
    readBoardAction p b s = (⟨.boardDisabled, []⟩, s) := by
  simp only [readBoardAction, he]
  rfl

theorem readBoardAction_empty (he : s.table.boards[b].enabled = true) (hh : s.boards[b].held = none) :
    readBoardAction p b s = (⟨.boardEmpty, []⟩, s) := by
  simp only [readBoardAction, he, if_true, hh]
  rfl

theorem boardRecord_live {bd : Board} {slot : SlotIx} {m : Message} (hm : s.pool.slots[slot] = .live m) :
    s.boardRecord p b bd slot =
      record (BitVec.ofNat 8 b.val) slot bd.lastSequence (if bd.unread[p] then 1#8 else 0#8) bd.overwrites[p] m ++
        m.payload.toList.take m.length.val := by
  rw [State.boardRecord, message_live hm, recordHead, record, sequenceBytes_eq, halfBytes_eq, halfBytes_eq, leBytes_eq]
  rfl

theorem readBoardAction_reads {slot : SlotIx} {m : Message} (he : s.table.boards[b].enabled = true)
    (hh : s.boards[b].held = some slot) (hm : s.pool.slots[slot] = .live m) :
    readBoardAction p b s =
      (⟨.ok, record (BitVec.ofNat 8 b.val) slot s.boards[b].lastSequence (if s.boards[b].unread[p] then 1#8 else 0#8)
            s.boards[b].overwrites[p] m ++ m.payload.toList.take m.length.val⟩,
        { s with boards := s.boards.set b { s.boards[b] with
            unread := s.boards[b].unread.set p false
            overwrites := s.boards[b].overwrites.set p 0#8 } }) := by
  have hboard : readBoardAction p b s =
      (⟨.ok, s.boardRecord p b s.boards[b] slot⟩, { s with boards := s.boards.set b (s.boards[b].readBy p) }) := by
    simp only [readBoardAction, he, if_true]
    split
    · rename_i hnone
      cases hnone.symm.trans hh
    · rename_i slot' hsome
      cases hsome.symm.trans hh
      rfl
  rw [hboard, boardRecord_live hm]
  rfl

end ReadBoard

/-- Settles O30: the board is enabled and holds a LIVE slot. -/
theorem readBoardReturnsAndClearsTheMark : Obligations.ReadBoardReturnsAndClearsTheMark := by
  intro h s c board b slot m hf hc hb he hh hm
  have ha := readBoardAction_reads (s := s.hear h.port) (p := h.port) he hh hm
  rw [ofNat_of_index hb, ← indexed_acts hb (readBoardAction h.port)] at ha
  exact completes_in_open (i := .readBoard h board) rfl hf hc ha rfl rfl rfl rfl

/-! #### PULL (R104) -/

theorem hasWaiting_iff_pulling (s : State) (p : Port) (b : BoardIx) : s.hasWaiting p b = true ↔ pulling s p b :=
  hasWaiting_iff s p b

theorem hasDone_iff_uncollected (s : State) (p : Port) (b : BoardIx) :
    s.hasDone p b = true ↔ ∃ o, uncollected s p b o := by
  rw [hasDone_iff]
  exact ⟨fun ⟨e, he, hr, hb, o, ho⟩ => ⟨o, e, he, hr, hb, ho⟩, fun ⟨o, e, he, hr, hb, ho⟩ => ⟨e, he, hr, hb, o, ho⟩⟩

section Pull

variable {s : State} {p q : Port} {b : BoardIx} {timeout : Half}

theorem pullAction_disabled (he : s.table.boards[b].enabled = false) :
    pullAction p b s = (⟨.boardDisabled, []⟩, s) := by
  simp only [pullAction, he]
  rfl

theorem pullAction_noSupplier (he : s.table.boards[b].enabled = true) (hs : s.table.boards[b].supplier = none) :
    pullAction p b s = (⟨.noSupplier, []⟩, s) := by
  simp only [pullAction, he, if_true, hs]
  rfl

theorem pullAction_self (he : s.table.boards[b].enabled = true) (hs : s.table.boards[b].supplier = some p) :
    pullAction p b s = (⟨.selfSupplier, []⟩, s) := by
  simp only [pullAction, he, if_true, hs]
  rfl

theorem pullAction_absent (he : s.table.boards[b].enabled = true) (hs : s.table.boards[b].supplier = some q)
    (hq : q ≠ p) (ho : s.isOpen q = false) : pullAction p b s = (⟨.supplierAbsent, []⟩, s) := by
  simp only [pullAction, he, if_true, hs, if_neg hq, ho]
  rfl

theorem pullAction_from (he : s.table.boards[b].enabled = true) (hs : s.table.boards[b].supplier = some q)
    (hq : q ≠ p) (ho : s.isOpen q = true) :
    pullAction p b s = pullFrom p b q s.table.boards[b].pullTimeout s := by
  simp only [pullAction, he, if_true, hs, if_neg hq, ho]

theorem pullFrom_pending (hw : pulling s p b) : pullFrom p b q timeout s = (⟨.alreadyPending, []⟩, s) := by
  rw [pullFrom, if_pos ((hasWaiting_iff_pulling s p b).2 hw)]
  rfl

theorem pullFrom_uncollected (hw : ¬pulling s p b) (hd : ∃ o, uncollected s p b o) :
    pullFrom p b q timeout s = (⟨.uncollected, []⟩, s) := by
  rw [pullFrom, if_neg (mt (hasWaiting_iff_pulling s p b).1 hw), if_pos ((hasDone_iff_uncollected s p b).2 hd)]
  rfl

theorem not_hasDone (hd : ∀ o, ¬uncollected s p b o) : ¬s.hasDone p b = true := fun h =>
  have ⟨o, ho⟩ := (hasDone_iff_uncollected s p b).1 h
  hd o ho

theorem pullFrom_limit (hw : ¬pulling s p b) (hd : ∀ o, ¬uncollected s p b o) (hl : Config.pullsPerPort ≤ s.pullCount p) :
    pullFrom p b q timeout s = (⟨.pullLimit, []⟩, s) := by
  rw [pullFrom, if_neg (mt (hasWaiting_iff_pulling s p b).1 hw), if_neg (not_hasDone hd), if_pos hl]
  rfl

theorem pullFrom_full (hw : ¬pulling s p b) (hd : ∀ o, ¬uncollected s p b o) (hl : s.pullCount p < Config.pullsPerPort)
    (hfull : Config.pullListSize ≤ s.pulls.length) : pullFrom p b q timeout s = (⟨.pullListFull, []⟩, s) := by
  rw [pullFrom, if_neg (mt (hasWaiting_iff_pulling s p b).1 hw), if_neg (not_hasDone hd), if_neg (Nat.not_le.2 hl),
    if_pos hfull]
  rfl

theorem pullFrom_appends (hw : ¬pulling s p b) (hd : ∀ o, ¬uncollected s p b o) (hl : s.pullCount p < Config.pullsPerPort)
    (hroom : s.pulls.length < Config.pullListSize) :
    pullFrom p b q timeout s =
      (⟨.ok, [BitVec.ofNat 8 b.val, BitVec.ofNat 8 q.val] ++ le 2 timeout.toNat⟩,
        { s with pulls := s.pulls ++
            [{ requester := p, board := b, state := .waiting (timer s.timeBase timeout) }] }) := by
  rw [pullFrom, if_neg (mt (hasWaiting_iff_pulling s p b).1 hw), if_neg (not_hasDone hd), if_neg (Nat.not_le.2 hl),
    if_neg (Nat.not_le.2 hroom), halfBytes_eq]
  rfl

end Pull

/-- Settles O31: none of the eight conditions refuses. -/
theorem pullAppendsAPendingEntry : Obligations.PullAppendsAPendingEntry := by
  intro h s c board b q hf hc hb he hs hq ho hw hd hl hroom
  have ho' : (s.hear h.port).isOpen q = true := by rw [hear_isOpen, isOpen_eq, ho]
  have ha := (pullAction_from (s := s.hear h.port) he hs hq ho').trans (pullFrom_appends hw hd hl hroom)
  rw [ofNat_of_index hb, ← indexed_acts hb (pullAction h.port)] at ha
  exact completes_in_open (i := .pull h board) rfl hf hc ha rfl rfl rfl rfl

/-! #### CANCEL_PULL and COLLECT (R113, R114) -/

section Remove

variable {s : State} {p : Port} {b : BoardIx}

theorem cancelPullAction_none (hw : ¬pulling s p b) : cancelPullAction p b s = (⟨.noSuchPull, []⟩, s) := by
  rw [cancelPullAction, if_neg (mt (hasWaiting_iff_pulling s p b).1 hw)]
  rfl

theorem doneOutcome_none (hd : ∀ o, ¬uncollected s p b o) : s.doneOutcome p b = none := by
  refine List.findSome?_eq_none_iff.2 fun e he => ?_
  split
  · rename_i o ho
    rw [if_neg]
    intro hfor
    obtain ⟨hr, hb⟩ := Bool.and_eq_true_iff.1 hfor
    exact hd o ⟨e, he, of_decide_eq_true hr, of_decide_eq_true hb, ho⟩
  · rfl

theorem collectAction_none (hd : ∀ o, ¬uncollected s p b o) : collectAction p b s = (⟨.noSuchPull, []⟩, s) := by
  simp only [collectAction, doneOutcome_none hd]
  rfl

variable {e : Pull} {before after : List Pull} (hpulls : s.pulls = before ++ e :: after) (hr : e.requester = p)
  (hb : e.board = b) (hothers : ∀ x ∈ before ++ after, ¬(x.requester = p ∧ x.board = b))

include hr hb in
theorem isFor_entry : e.isFor p b = true := by simp [Pull.isFor, hr, hb]

include hothers in
theorem isFor_other {x : Pull} (hx : x ∈ before ++ after) : x.isFor p b = false := by
  have := hothers x hx
  simpa [Pull.isFor] using this

include hpulls hr hb hothers in
/-- CANCEL_PULL removes the one entry of requester and board, where it is PENDING. -/
theorem cancelPullAction_removes {x : Timer} (hx : e.state = .waiting x) :
    cancelPullAction p b s = (⟨.ok, []⟩, { s with pulls := before ++ after }) := by
  have hw : e.isWaiting = true := by simp [Pull.isWaiting, hx]
  have hpending : pulling s p b := ⟨e, by rw [hpulls]; simp, hr, hb, x, hx⟩
  have hfilter : (s.pulls.filter fun e => !(e.isFor p b && e.isWaiting)) = before ++ after := by
    rw [hpulls]
    refine filter_one (by simp [isFor_entry hr hb, hw]) fun y hy => ?_
    simp [isFor_other hothers hy]
  rw [cancelPullAction, if_pos ((hasWaiting_iff_pulling s p b).2 hpending), hfilter]
  rfl

include hpulls hr hb hothers in
theorem doneOutcome_entry {o : PullOutcome} (ho : e.state = .done o) : s.doneOutcome p b = some o := by
  rw [State.doneOutcome, List.findSome?_eq_some_iff]
  refine ⟨before, e, after, hpulls, ?_, fun y hy => ?_⟩
  · rw [ho]
    exact if_pos (isFor_entry hr hb)
  · rw [isFor_other hothers (List.mem_append_left _ hy)]
    split <;> rfl

theorem outcomeBytes_eq (o : PullOutcome) : [o.byte] ++ sequenceBytes o.sequence = outcomeBytes o := by
  rw [sequenceBytes_eq]
  cases o <;> rfl

include hpulls hr hb hothers in
/-- COLLECT removes the one entry of requester and board, where it is DONE. -/
theorem collectAction_removes {o : PullOutcome} (ho : e.state = .done o) :
    collectAction p b s =
      (⟨.ok, BitVec.ofNat 8 b.val :: outcomeBytes o⟩, { s with pulls := before ++ after }) := by
  have hw : e.isWaiting = false := by simp [Pull.isWaiting, ho]
  have hfilter : (s.pulls.filter fun e => !(e.isFor p b && !e.isWaiting)) = before ++ after := by
    rw [hpulls]
    refine filter_one (by simp [isFor_entry hr hb, hw]) fun y hy => ?_
    simp [isFor_other hothers hy]
  simp only [collectAction, doneOutcome_entry hpulls hr hb hothers ho, hfilter, ← outcomeBytes_eq]
  rfl

end Remove

/-- Settles O32: the one entry of requester and board is the one removed. -/
theorem cancelAndCollectRemoveOneEntry : Obligations.CancelAndCollectRemoveOneEntry := by
  refine fun h s c board b e before after hc hb hpulls hr heb hothers => ⟨fun x hx hf => ?_, fun o ho hf => ?_⟩
  · have ha := cancelPullAction_removes (s := s.hear h.port) hpulls hr heb hothers hx
    rw [← indexed_acts hb (cancelPullAction h.port)] at ha
    exact completes_in_open (i := .cancelPull h board) rfl hf hc ha rfl rfl rfl rfl
  · have ha := collectAction_removes (s := s.hear h.port) hpulls hr heb hothers ho
    rw [ofNat_of_index hb, ← indexed_acts hb (collectAction h.port)] at ha
    exact completes_in_open (i := .collect h board) rfl hf hc ha rfl rfl rfl rfl

/-- Settles O34: each refusal is the first condition that holds. -/
theorem boardAndPullRefusals : Obligations.BoardAndPullRefusals := by
  intro h s c board b hc hb
  have read : ∀ {o : OutcomeCode}, Fresh s h 0x30#8 →
      readBoardAction h.port b (s.hear h.port) = (⟨o, []⟩, s.hear h.port) →
      Completes (.readBoard h board) s fun t => Unchanged s t h 0x30#8 o [] := fun hf ha =>
    completes_in_open (i := .readBoard h board) rfl hf hc
      ((congrFun (indexed_acts hb (readBoardAction h.port)) _).trans ha) rfl rfl rfl rfl
  have pull : ∀ {o : OutcomeCode}, Fresh s h 0x31#8 →
      pullAction h.port b (s.hear h.port) = (⟨o, []⟩, s.hear h.port) →
      Completes (.pull h board) s fun t => Unchanged s t h 0x31#8 o [] := fun hf ha =>
    completes_in_open (i := .pull h board) rfl hf hc
      ((congrFun (indexed_acts hb (pullAction h.port)) _).trans ha) rfl rfl rfl rfl
  refine ⟨fun hf => ⟨fun he => ?_, fun he hh => ?_⟩, fun hf => ⟨fun he => ?_, fun he hs => ?_, fun he hs => ?_,
    fun q he hs hq => ⟨fun ho => ?_, fun ho hw => ?_, fun ho hw => ⟨fun hd => ?_, fun hd hl => ?_, fun hd hl hfull => ?_⟩⟩⟩,
    fun hf hw => ?_, fun hf hd => ?_⟩
  · exact read hf (readBoardAction_disabled (s := s.hear h.port) he)
  · exact read hf (readBoardAction_empty (s := s.hear h.port) he hh)
  · exact pull hf (pullAction_disabled (s := s.hear h.port) he)
  · exact pull hf (pullAction_noSupplier (s := s.hear h.port) he hs)
  · exact pull hf (pullAction_self (s := s.hear h.port) he hs)
  · exact pull hf (pullAction_absent (s := s.hear h.port) he hs hq (by rw [hear_isOpen, isOpen_eq, ho]))
  · have hfrom := pullAction_from (s := s.hear h.port) he hs hq (by rw [hear_isOpen, isOpen_eq, ho])
    exact pull hf (hfrom.trans (pullFrom_pending hw))
  · have hfrom := pullAction_from (s := s.hear h.port) he hs hq (by rw [hear_isOpen, isOpen_eq, ho])
    exact pull hf (hfrom.trans (pullFrom_uncollected hw hd))
  · have hfrom := pullAction_from (s := s.hear h.port) he hs hq (by rw [hear_isOpen, isOpen_eq, ho])
    exact pull hf (hfrom.trans (pullFrom_limit hw hd hl))
  · have hfrom := pullAction_from (s := s.hear h.port) he hs hq (by rw [hear_isOpen, isOpen_eq, ho])
    exact pull hf (hfrom.trans (pullFrom_full hw hd hl hfull))
  · have ha := cancelPullAction_none (s := s.hear h.port) hw
    rw [← indexed_acts hb (cancelPullAction h.port)] at ha
    exact completes_in_open (i := .cancelPull h board) rfl hf hc ha rfl rfl rfl rfl
  · have ha := collectAction_none (s := s.hear h.port) hd
    rw [← indexed_acts hb (collectAction h.port)] at ha
    exact completes_in_open (i := .collect h board) rfl hf hc ha rfl rfl rfl rfl

/-! #### Pull expiry (R107) -/

theorem isFor_isDue {e : Pull} {p : Port} {b : BoardIx} {x : Timer} (hr : e.requester = p) (hb : e.board = b)
    (hx : e.state = .waiting x) : (e.isFor p b && e.isDue) = x.due := by
  simp [Pull.isFor, Pull.isDue, hr, hb, hx]

/-- Settles O33: the due entry is the only one of requester and board. -/
theorem pullExpiryEndsTheEntry : Obligations.PullExpiryEndsTheEntry := by
  refine fun p b s hreset => ⟨fun e before after x hpulls hr hb hx hd hothers => ?_, fun hnone => ?_⟩
  · have hdue : (e.isFor p b && e.isDue) = true := (isFor_isDue hr hb hx).trans hd
    have hany : (s.pulls.any fun e => e.isFor p b && e.isDue) = true :=
      List.any_eq_true.2 ⟨e, by rw [hpulls]; simp, hdue⟩
    have hkept : ∀ y ∈ before ++ after, expirePull p b y = y := fun y hy => by
      rw [expirePull, isFor_other hothers hy]
      rfl
    have hmap : s.pulls.map (expirePull p b) = before ++ { e with state := .done .expired } :: after := by
      rw [hpulls, List.map_append, List.map_cons, expirePull, if_pos hdue,
        List.map_congr_left fun y hy => hkept y (List.mem_append_left _ hy),
        List.map_congr_left fun y hy => hkept y (List.mem_append_right _ hy), List.map_id'', List.map_id'']
      · rfl
      · exact fun _ => rfl
      · exact fun _ => rfl
    have hexec : exec (.pullExpiry p b) s =
        .next (s.event fun s => { s with pulls := s.pulls.map (expirePull p b) }) := by
      simp only [exec, execPullExpiry, hany, if_true]
    refine completes_event hexec hreset rfl ⟨rfl, rfl, settle_settled _, ?_⟩
    rw [blocks_settle, ← hmap]
    rfl
  · have hany : (s.pulls.any fun e => e.isFor p b && e.isDue) = false := by
      refine List.any_eq_false.2 fun e he hdue => ?_
      obtain ⟨hfor, hd⟩ := Bool.and_eq_true_iff.1 hdue
      obtain ⟨hr, hb⟩ := Bool.and_eq_true_iff.1 hfor
      cases hx : e.state with
      | waiting x =>
        have hx' := hnone e he (of_decide_eq_true hr) (of_decide_eq_true hb) x hx
        rw [← isFor_isDue (of_decide_eq_true hr) (of_decide_eq_true hb) hx, hfor, hd] at hx'
        cases hx'
      | done o => simp [Pull.isDue, hx] at hd
    simp only [exec, execPullExpiry, hany, Bool.false_eq_true, if_false]

end Sys2Proof.Proofs

/-! ### Proofs: the edits of the shadow, its reads and its refusals -/

namespace Sys2Proof.Proofs

open Sys2Proof.Machine Sys2Proof.Safety Sys2Proof.Statements Sys2Proof.Laws

-- One proof after another: side by side they take more memory than a check has.
set_option Elab.async false

/-! #### Rules and board definitions in range (R121) -/

theorem laneOf_some {b : Byte} (h : b.toNat ≤ 1) : ∃ l, laneOf b = some l ∧ laneCode l = b := by
  have hb : b = 0#8 ∨ b = 1#8 := by
    rw [← BitVec.toNat_inj, ← BitVec.toNat_inj]
    exact Nat.le_one_iff_eq_zero_or_eq_one.1 h
  rcases hb with rfl | rfl
  · exact ⟨.normal, rfl, rfl⟩
  · exact ⟨.urgent, rfl, rfl⟩

theorem policyOf_some {b : Byte} (h : b.toNat ≤ 2) : ∃ f, policyOf b = some f ∧ policyCode f = b := by
  have hb : b = 0#8 ∨ b = 1#8 ∨ b = 2#8 := by
    rw [← BitVec.toNat_inj, ← BitVec.toNat_inj, ← BitVec.toNat_inj, BitVec.toNat_ofNat, BitVec.toNat_ofNat,
      BitVec.toNat_ofNat]
    omega
  rcases hb with rfl | rfl | rfl
  · exact ⟨.refuse, rfl, rfl⟩
  · exact ⟨.dropNew, rfl, rfl⟩
  · exact ⟨.dropOldest, rfl, rfl⟩

theorem indexOf_lt {n : Nat} {b : Byte} (h : b.toNat < n) : ∃ i : Fin n, indexOf n b = some i ∧ i.val = b.toNat :=
  ⟨⟨b.toNat, h⟩, dif_pos h, rfl⟩

/-- The class a rule image in range gives: its lane and policy, or its board (R121). -/
theorem ruleClassOf_some {r : RuleImage}
    (h : ¬(1 < r.cls.toNat ∨ (r.cls = 0#8 ∧ (1 < r.lane.toNat ∨ 2 < r.policy.toNat)) ∨
      (r.cls = 1#8 ∧ 31 < r.board.toNat))) :
    ∃ c, ruleClassOf r = some c ∧
      (r.cls = 0#8 → ∃ l f, c = .queued l f ∧ laneCode l = r.lane ∧ policyCode f = r.policy) ∧
      (r.cls = 1#8 → ∃ b : BoardIx, c = .board b ∧ b.val = r.board.toNat) := by
  simp only [not_or, not_and, Nat.not_lt] at h
  obtain ⟨hcls, hqueued, hboard⟩ := h
  have hc : r.cls = 0#8 ∨ r.cls = 1#8 := by
    rw [← BitVec.toNat_inj, ← BitVec.toNat_inj]
    exact Nat.le_one_iff_eq_zero_or_eq_one.1 hcls
  unfold ruleClassOf
  rcases hc with h0 | h1
  · obtain ⟨hlane, hpolicy⟩ := hqueued h0
    obtain ⟨l, hl, hlb⟩ := laneOf_some hlane
    obtain ⟨f, hf, hfb⟩ := policyOf_some hpolicy
    refine ⟨.queued l f, ?_, fun _ => ⟨l, f, rfl, hlb, hfb⟩, fun h1 => ?_⟩
    · rw [h0, hl, hf]
      rfl
    · cases h0.symm.trans h1
  · obtain ⟨b, hb, hbv⟩ := indexOf_lt (Nat.lt_succ_of_le (hboard h1))
    refine ⟨.board b, ?_, fun h0 => ?_, fun _ => ⟨b, rfl, hbv⟩⟩
    · rw [h1, hb]
      rfl
    · cases h0.symm.trans h1

theorem portSetOf_get (b : Byte) (q : Port) : (portSetOf b)[q] = b.getLsbD q := ofFn_get _ q

/-- The supplier an image in range gives: absent for FFh, else the port (R121). -/
theorem supplierOf_some {b : Byte} (h : 3 < b.toNat → b = 0xFF#8) :
    ∃ su, supplierOf b = some su ∧ (b = 0xFF#8 → su = none) ∧ ∀ q : Port, b.toNat = q.val → su = some q := by
  unfold supplierOf
  by_cases hff : b = 0xFF#8
  · refine ⟨none, if_pos hff, fun _ => rfl, fun q hq => ?_⟩
    have := q.isLt
    rw [hff, BitVec.toNat_ofNat] at hq
    omega
  · obtain ⟨p, hp, hpv⟩ := indexOf_lt (Nat.lt_of_not_le (mt h hff))
    refine ⟨some p, by rw [if_neg hff, hp]; rfl, fun h => absurd h hff, fun q hq => ?_⟩
    rw [Fin.ext (hpv.trans hq)]

/-! #### The edits (R121, R122) -/

/-- The holder's edit changes the shadow and restarts the claim deadline (R122). -/
theorem editShadow_holder {s : State} {p : Port} {x : Claim} (hx : s.claim = some x) (hp : x.holder = p)
    (f : Table → Table) :
    whenHolder p (editShadow f) s =
      (⟨.ok, []⟩, { s with claim := some { x with shadow := f x.shadow, timer := timer s.timeBase 2000#16 } }) :=
  whenHolder_holder hx hp

/-- Settles O36: the operands in range give one rule or definition, and the holder's edit puts it in the shadow. -/
theorem editsReplaceOneShadowEntry : Obligations.EditsReplaceOneShadowEntry := by
  refine fun h s c x index hc hx hp => ⟨fun i image hi hf hout => ?_, fun i hi hf => ?_, fun b image hb hf hout => ?_⟩
  · obtain ⟨cls, hcls, hqueued, hboard⟩ := ruleClassOf_some (not_or.1 hout).2
    have ha := editShadow_holder (s := s.hear h.port) hx hp fun t => t.setRule i
      { valid := image.flags.getLsbD 0, tag := image.tag, mask := image.mask, source := portSetOf image.source,
        cls := cls, dest := portSetOf image.dest, echo := image.flags.getLsbD 1,
        rewrite := if image.flags.getLsbD 2 then some image.rewrite else none }
    obtain ⟨t, ht, hexec, hblocks⟩ := completes_in_open (i := .editRule h index image) rfl hf hc
      ((congrFun ((indexed_acts hi _).trans (by rw [ruleOf, hcls]; rfl)) _).trans ha) rfl rfl rfl rfl
    exact ⟨t, ht, hexec, _, rfl, rfl, rfl, rfl, rfl, portSetOf_get _, portSetOf_get _, hqueued, hboard, hblocks⟩
  · have ha := editShadow_holder (s := s.hear h.port) hx hp fun t => t.setRule i Rule.cleared
    exact completes_in_open (i := .clearRule h index) rfl hf hc
      ((congrFun (indexed_acts hi _) _).trans ha) rfl rfl rfl rfl
  · obtain ⟨_, hrange⟩ := not_or.1 hout
    obtain ⟨htime, hsupplier⟩ := not_or.1 hrange
    obtain ⟨su, hsu, hnone, hsome⟩ := supplierOf_some fun h3 => not_not.1 fun hff => hsupplier ⟨h3, hff⟩
    have ha := editShadow_holder (s := s.hear h.port) hx hp fun t => t.setBoard b
      { enabled := image.flags.getLsbD 0, supplier := su, pullTimeout := image.pullTimeout }
    obtain ⟨t, ht, hexec, hblocks⟩ := completes_in_open (i := .editBoard h index image) rfl hf hc
      ((congrFun ((indexed_acts hb _).trans (by rw [boardDefOf, if_neg htime, hsu]; rfl)) _).trans ha) rfl rfl rfl rfl
    exact ⟨t, ht, hexec, _, rfl, rfl, hnone, hsome, hblocks⟩

/-! #### The reads of a table (R36, R123) -/

theorem portSetByte_get (v : PortSet) : portSetByte v = portsByte fun q => v[q] := by
  rw [← portSetByte_eq, ← eq_ofFn fun _ => rfl]

theorem flagsByte_eq (a b c : Bool) :
    BitVec.ofNat 8 (bitsNat [a, b, c]) =
      BitVec.ofNat 8 ((if a then 1 else 0) + (if b then 2 else 0) + (if c then 4 else 0)) := by
  cases a <;> cases b <;> cases c <;> rfl

/-- A rule is returned field by field (R175). -/
theorem image_bytes_eq_ruleBytes (r : Rule) : r.image.bytes = ruleBytes r := by
  rw [RuleImage.bytes, ruleBytes, leBytes_eq, leBytes_eq, leBytes_eq, ← flagsByte_eq, ← portSetByte_get,
    ← portSetByte_get, List.append_assoc _ (le 2 r.image.rewrite.toNat)]
  have hrewrite : le 2 r.image.rewrite.toNat =
      match r.rewrite with
      | some w => le 2 w.toNat
      | none => [0#8, 0#8] := by
    cases h : r.rewrite <;> (simp only [Rule.image, h]; rfl)
  have hclass : [r.image.lane, r.image.policy, r.image.board] =
      match r.cls with
      | .queued lane policy => [laneCode lane, policyCode policy, 0xFF#8]
      | .board b => [0xFF#8, 0xFF#8, BitVec.ofNat 8 b.val] := by
    cases h : r.cls with
    | queued l f => simp only [Rule.image, h, laneByte_eq, policyByte_eq]
    | board b =>
      simp only [Rule.image, h]
      rfl
  rw [hrewrite, hclass, List.append_assoc]
  rfl

/-- A read selects the active table, or the shadow where the reader holds the claim (R36, R123). -/
theorem readTable_reads {s : State} {p : Port} {selector : Byte} {table : Table} (content : Half → Table → List Byte)
    (h : (selector = 0#8 ∧ table = s.table) ∨
      ∃ x : Claim, selector = 1#8 ∧ s.claim = some x ∧ x.holder = p ∧ table = x.shadow) :
    withArgument (selectorOf selector) (fun sel => readTable p sel content) s =
      (⟨.ok, content s.generation table⟩, s) := by
  rcases h with ⟨rfl, rfl⟩ | ⟨x, rfl, hx, hp, rfl⟩
  · rfl
  · exact whenHolder_holder hx hp

/-- Settles O37: both reads answer with the table selected, entry by entry. -/
theorem tableReadsChangeNothing : Obligations.TableReadsChangeNothing := by
  refine fun h s c index selector table hc htable => ⟨fun i hi hf => ?_, fun b hb hf => ?_⟩
  · have ha := readTable_reads (s := s.hear h.port) (p := h.port) (ruleContent index selector i) htable
    rw [ruleContent, halfBytes_eq, image_bytes_eq_ruleBytes] at ha
    exact completes_in_open (i := .readRule h index selector) rfl hf hc
      ((congrFun (indexed_acts hi _) _).trans ha) rfl rfl rfl rfl
  · have ha := readTable_reads (s := s.hear h.port) (p := h.port) (boardDefContent index selector b) htable
    rw [boardDefContent, halfBytes_eq, BoardImage.bytes, leBytes_eq] at ha
    exact completes_in_open (i := .readBoarddef h index selector) rfl hf hc
      ((congrFun (indexed_acts hb _) _).trans ha) rfl rfl rfl rfl

/-! #### The refusals (R122, R123, R127) -/

/-- The lowest failing rule and its reason (R127). -/
theorem firstFailure_lowest {t : Table} {i : RuleIx} {reason : Byte} (hi : invalidity t t.rules[i] = some reason)
    (hlow : ∀ j : RuleIx, j < i → invalidity t t.rules[j] = none) :
    ∃ f : RuleFailure, t.firstFailure = some (i, f) ∧ f.byte = reason := by
  rw [← ruleFailure_eq_invalidity, Option.map_eq_some_iff] at hi
  obtain ⟨f, hf, hbyte⟩ := hi
  refine ⟨f, ?_, hbyte⟩
  have hsplit : List.finRange 64 = (List.finRange 64).take i.val ++ i :: (List.finRange 64).drop (i.val + 1) := by
    have hi : i.val < (List.finRange 64).length := i.isLt
    conv_lhs => rw [← List.take_append_drop i.val (List.finRange 64), List.drop_eq_getElem_cons hi, List.getElem_finRange]
    rfl
  rw [Table.firstFailure, List.findSome?_eq_some_iff]
  refine ⟨_, i, _, hsplit, by rw [hf]; rfl, fun j hj => ?_⟩
  obtain ⟨k, hk, rfl⟩ := List.mem_take_iff_getElem.1 hj
  have hlt : (List.finRange 64)[k] < i := by
    rw [List.getElem_finRange]
    exact Fin.lt_def.2 (lt_of_lt_of_le hk (min_le_left _ _))
  rw [Option.map_eq_none_iff, ← Option.map_eq_none_iff, ruleFailure_eq_invalidity, hlow _ hlt]

theorem commitShadow_invalid {s : State} {p : Port} {x : Claim} {i : RuleIx} {f : RuleFailure}
    (hf : x.shadow.firstFailure = some (i, f)) :
    commitShadow p x s = (⟨.tableInvalid, [BitVec.ofNat 8 i.val, f.byte]⟩, s) := by
  simp only [commitShadow, hf]

/-- A fresh request of an OPEN port whose checks all pass on to the claim check, which refuses it. -/
theorem completes_notHolder {i : Instr} {s : State} {h : Head} {code : Byte} {c : Conn} {act : Conn → Action}
    (hx : exec i s = .next (s.request h code (whenOpen h.port act))) (hf : Fresh s h code)
    (hc : s.sessions[h.port].phase = .opened c)
    (ha : ∀ c', act c' (s.hear h.port) = (⟨.notHolder, []⟩, s.hear h.port)) :
    Completes i s fun t => Unchanged s t h code .notHolder [] :=
  completes_unchanged hx hf ((whenOpen_opened hc).trans (ha _)) (refusal_keeps_number nofun)

/-- An operand in range is one the argument check passes on. -/
theorem withArgument_lt {n : Nat} {byte : Byte} {o : Reply × State} {act : Fin n → Action} {s : State} (h : byte.toNat < n)
    (ha : ∀ i, act i s = o) : withArgument (indexOf n byte) act s = o := by
  obtain ⟨i, hi, _⟩ := indexOf_lt h
  rw [hi]
  exact ha i

/-- Settles O40: past its argument checks each request meets the claim check, which refuses; the holder's COMMIT meets
the validation. -/
theorem claimUnitRefusals : Obligations.ClaimUnitRefusals := by
  refine fun h s c hc => ⟨fun hother i r hr hh hf hout hkind => ?_, fun x i reason hx hp hf hi hlow => ?_⟩
  · subst hh
    have refused : ∀ act : Claim → Action,
        whenHolder r.head.port act (s.hear r.head.port) = (⟨.notHolder, []⟩, s.hear r.head.port) :=
      fun act => whenHolder_other hother
    cases i with
    | editRule h index image =>
      cases hr
      obtain ⟨hindex, hrange⟩ := not_or.1 hout
      obtain ⟨cls, hcls, _⟩ := ruleClassOf_some hrange
      refine completes_notHolder rfl hf hc fun _ => withArgument_lt (Nat.lt_succ_of_le (Nat.not_lt.1 hindex)) fun i => ?_
      rw [ruleOf, hcls]
      exact refused _
    | clearRule h index =>
      cases hr
      exact completes_notHolder rfl hf hc fun _ =>
        withArgument_lt (Nat.lt_succ_of_le (Nat.not_lt.1 hout)) fun _ => refused _
    | editBoard h index image =>
      cases hr
      obtain ⟨hindex, hrange⟩ := not_or.1 hout
      obtain ⟨htime, hsupplier⟩ := not_or.1 hrange
      obtain ⟨su, hsu, _⟩ := supplierOf_some fun h3 => not_not.1 fun hff => hsupplier ⟨h3, hff⟩
      refine completes_notHolder rfl hf hc fun _ => withArgument_lt (Nat.lt_succ_of_le (Nat.not_lt.1 hindex)) fun i => ?_
      rw [boardDefOf, if_neg htime, hsu]
      exact refused _
    | readRule h index selector =>
      cases hr
      cases hkind
      exact completes_notHolder rfl hf hc fun _ =>
        withArgument_lt (Nat.lt_succ_of_le (Nat.not_lt.1 (not_or.1 hout).1)) fun _ => refused _
    | readBoarddef h index selector =>
      cases hr
      cases hkind
      exact completes_notHolder rfl hf hc fun _ =>
        withArgument_lt (Nat.lt_succ_of_le (Nat.not_lt.1 (not_or.1 hout).1)) fun _ => refused _
    | commit h =>
      cases hr
      exact completes_notHolder rfl hf hc fun _ => refused _
    | _ => cases hkind
  · obtain ⟨f, hfail, rfl⟩ := firstFailure_lowest hi hlow
    have ha := (whenHolder_holder (s := s.hear h.port) hx hp).trans (commitShadow_invalid (p := h.port) hfail)
    exact completes_in_open rfl hf hc ha rfl rfl rfl rfl

/-! #### The lapse (R125) -/

theorem blocks_lapseClaim (s : State) (x : Claim) :
    blocks (s.lapseClaim x) =
      { blocks s with
        claim := none
        latched := (s.attention.map fun a => a.latched).set x.holder
          { s.attention[x.holder].latched with claimLapsed := true } } :=
  Blocks.ext rfl rfl rfl rfl rfl rfl rfl rfl rfl rfl rfl rfl rfl
    (map_set_at Attention.latched s.attention x.holder _) (map_mask_set s.attention x.holder _) rfl

/-- Settles O41, by whether the claim is held and whether its timer is due. -/
theorem claimLapseFreesAndLatches : Obligations.ClaimLapseFreesAndLatches := by
  refine fun s hreset => ⟨fun x hx hdue => ?_, fun hnot => ?_⟩
  · have hexec : exec .claimLapse s = .next (s.event fun s => s.lapseClaim x) := by
      simp only [exec, execClaimLapse, hx, hdue, if_true]
    refine completes_event hexec hreset rfl ⟨rfl, rfl, settle_settled _, ?_⟩
    rw [blocks_settle, blocks_lapseClaim]
  · cases hx : s.claim with
    | none => simp only [exec, execClaimLapse, hx]
    | some x => simp only [exec, execClaimLapse, hx, hnot x hx, Bool.false_eq_true, if_false]

end Sys2Proof.Proofs

/-! ### Proofs: STATUS, ACK_REASONS and SET_ATTENTION -/

namespace Sys2Proof.Proofs

open Sys2Proof.Machine Sys2Proof.Safety Sys2Proof.Statements Sys2Proof.Laws

-- One proof after another: side by side they take more memory than a check has.
set_option Elab.async false

/-! #### The pending set and the top reason (R176, R181) -/

/-- The pending reasons in order of priority. -/
theorem map_pendingReason (s : State) (p : Port) : Reason.all.map (s.pendingReason p) = pendingReasons s p := by
  have hfenced : decide (s.sessions[p].phase.state = .fenced) = decide (s.sessions[p].phase = .fenced) := by
    cases s.sessions[p].phase <;> rfl
  have hwanted : s.wanted[p].toList.any id = (List.finRange 32).any fun b => s.wanted[p][b] :=
    toList_any _ _
  have hunread : (s.boards.toList.any fun b => b.unread[p]) = (List.finRange 32).any fun b => s.boards[b].unread[p] :=
    toList_any _ _
  have hdone : s.hasDonePull p = s.pulls.any fun e => decide (e.requester = p) && !waits e := by
    simp only [State.hasDonePull, isWaiting_eq]
  simp only [Reason.all, List.map_cons, List.map_nil, State.pendingReason, hfenced, hwanted, hunread, hdone]
  rfl

/-- The reason at place `k` of the order: FENCED at place 0, bit `k`, priority `k + 1`. -/
theorem reason_at (k : Fin 10) :
    (Reason.all[k] = .fenced ↔ k = 0) ∧ Reason.all[k].bit = k.val ∧ Reason.all[k].priority = k.val + 1 := by
  revert k
  decide

theorem enabledReason_at (s : State) (p : Port) (k : Fin 10) :
    s.enabledReason p Reason.all[k] = true ↔ k.val = 0 ∨ s.attention[p].mask.getLsbD k.val = true := by
  obtain ⟨hfenced, hbit, -⟩ := reason_at k
  rw [State.enabledReason, Bool.or_eq_true, decide_eq_true_eq, hfenced, hbit, Fin.ext_iff]
  rfl

/-- A place counts for the top reason exactly where the reason there is pending and FENCED or enabled (R181). -/
theorem counts_iff (s : State) (p : Port) (k : Fin 10) :
    ((pendingReasons s p)[k.val]? = some true ∧ (k.val = 0 ∨ s.attention[p].mask.getLsbD k.val = true)) ↔
      (s.pendingReason p Reason.all[k] && s.enabledReason p Reason.all[k]) = true := by
  rw [Bool.and_eq_true, enabledReason_at, ← map_pendingReason, List.getElem?_map,
    List.getElem?_eq_getElem (show k.val < Reason.all.length from k.isLt), Option.map_some, Option.some_inj]
  rfl

theorem pendingReasons_lt {s : State} {p : Port} {k : Nat} (h : (pendingReasons s p)[k]? = some true) : k < 10 :=
  (List.getElem?_eq_some_iff.1 h).1

/-- The top reason the search finds is the one R181 names. -/
theorem topReasonByte_eq {s : State} {p : Port} {n : Nat} (h : topReasonIs s p n) :
    topReasonByte (s.topReason p) = BitVec.ofNat 8 n := by
  rcases h with ⟨rfl, hnone⟩ | ⟨k, rfl, hk, hlow⟩
  · have htop : s.topReason p = none := by
      refine List.find?_eq_none.2 fun r hr hcounts => ?_
      obtain ⟨k, hk, rfl⟩ := List.getElem_of_mem hr
      exact hnone k ((counts_iff s p ⟨k, hk⟩).2 hcounts)
    rw [htop]
    rfl
  · have hlt := pendingReasons_lt hk.1
    have htop : s.topReason p = some Reason.all[(⟨k, hlt⟩ : Fin 10)] := by
      refine List.find?_eq_some_iff_getElem.2 ⟨(counts_iff s p ⟨k, hlt⟩).1 hk, k, hlt, rfl, fun j hj => ?_⟩
      rw [Bool.not_eq_true', Bool.eq_false_iff]
      exact fun hcounts => hlow j hj ((counts_iff s p ⟨j, hj.trans hlt⟩).2 hcounts)
    rw [htop]
    exact congrArg (BitVec.ofNat 8) (reason_at ⟨k, hlt⟩).2.2

/-! #### STATUS (R182) -/

/-- Each DONE entry of the requester as its two bytes. -/
theorem map_doneList (s : State) (p : Port) :
    (s.doneList p).map (fun x => [boardByte x.1, x.2.byte]) = donePairs s p := by
  rw [State.doneList, donePairs, List.map_filterMap]
  refine List.filterMap_congr fun e _ => ?_
  cases e.state with
  | waiting x => rfl
  | done o =>
    by_cases hp : e.requester = p
    · simp only [if_pos hp, Option.map_some]
      cases o <;> rfl
    · simp only [if_neg hp, Option.map_none]

theorem stateByte_eq (ph : Phase) :
    ph.state.byte =
      match ph with
      | .closed => 0#8
      | .opened _ => 1#8
      | .closing _ => 2#8
      | .fenced => 3#8 := by
  cases ph <;> rfl

theorem holderByte_eq (c : Option Claim) :
    portByte? (c.map fun c => c.holder) =
      match c with
      | some x => BitVec.ofNat 8 x.holder.val
      | none => 0xFF#8 := by
  cases c <;> rfl

theorem boardSetBytes_eq (v : BoardSet) : boardSetBytes v = le 4 (bitsValue ((List.finRange 32).map fun b => v[b])) := by
  rw [boardSetBytes, leBytes_eq, bitsNat_eq, toList_finRange]

theorem bitsNat_lt (bs : List Bool) : bitsNat bs < 2 ^ bs.length := by
  induction bs with
  | nil => decide
  | cons b bs ih =>
    have := Bool.toNat_le b
    rw [bitsNat, List.length_cons, pow_succ]
    omega

theorem pendingSetBytes_eq (s : State) (p : Port) :
    halfBytes (s.pendingSet p) = le 2 (bitsValue (pendingReasons s p)) := by
  have hlt : bitsNat (pendingReasons s p) < 2 ^ 16 := lt_trans (bitsNat_lt _) (by decide : 2 ^ 10 < 2 ^ 16)
  rw [halfBytes_eq, State.pendingSet, map_pendingReason, BitVec.toNat_ofNat, Nat.mod_eq_of_lt hlt, bitsNat_eq]

/-- Hearing a request moves nothing STATUS reports. -/
theorem statusContent_hear (s : State) (p : Port) : (s.hear p).statusContent p = s.statusContent p := by
  have hepoch : (s.hear p).sessions[p].epoch = s.sessions[p].epoch := by
    rw [State.hear_sessions, set_get_self]
  have hpending : (s.hear p).pendingReason p = s.pendingReason p := by
    funext r
    cases r with
    | fenced => simp only [State.pendingReason, hear_state]
    | _ => rfl
  have htop : (s.hear p).topReason p = s.topReason p := by
    unfold State.topReason
    rw [hpending]
    rfl
  unfold State.statusContent State.pendingSet
  rw [hear_state, hepoch, htop, hpending]
  rfl

/-- Settles O42: STATUS only replies, and each field of its content is the one of 11.3. -/
theorem statusReportsThePicture : Obligations.StatusReportsThePicture := by
  intro h s top hf htop
  have hcompletes : Completes (.status h) s fun t => Unchanged s t h 0x50#8 .ok ((s.hear h.port).statusContent h.port) :=
    completes_unchanged rfl hf rfl rfl
  rw [statusContent_hear, State.statusContent, stateByte_eq, topReasonByte_eq htop, pendingSetBytes_eq, boardSetBytes_eq,
    boardSetBytes_eq, halfBytes_eq, halfBytes_eq, holderByte_eq, leBytes_eq, handCount_eq, composingCount_eq,
    List.flatMap_def, map_doneList] at hcompletes
  have hlength : (s.doneList h.port).length = (donePairs s h.port).length := by
    rw [← map_doneList, List.length_map]
  have hunread : ((List.finRange 32).map fun b => (s.unreadBoards h.port)[b]) =
      (List.finRange 32).map fun b => s.boards[b].unread[h.port] :=
    List.map_congr_left fun b _ => map_get _ _ b
  rw [hlength, hunread] at hcompletes
  exact hcompletes

/-! #### ACK_REASONS and SET_ATTENTION (R183, R185) -/

theorem blocks_ack (s : State) (p : Port) (l : Latched) :
    blocks (s.setLatched p l) = { blocks s with latched := (s.attention.map fun a => a.latched).set p l } :=
  Blocks.ext rfl rfl rfl rfl rfl rfl rfl rfl rfl rfl rfl rfl rfl
    (map_set_at Attention.latched s.attention p _) (map_mask_set s.attention p _) rfl

theorem map_latched_set (a : PerPort Attention) (p : Port) (m : Half) :
    (a.set p { a[p] with mask := m }).map (fun a => a.latched) = a.map fun a => a.latched := by
  refine (map_set_at Attention.latched a p _).trans ?_
  simpa using Vector.set_getElem_self (xs := a.map fun a => a.latched) (i := p.val) p.isLt

theorem blocks_setMask (s : State) (p : Port) (m : Half) :
    blocks (s.setAttention p { s.attention[p] with mask := m }) =
      { blocks s with mask := (s.attention.map fun a => a.mask).set p m } :=
  Blocks.ext rfl rfl rfl rfl rfl rfl rfl rfl rfl rfl rfl rfl rfl
    (map_latched_set s.attention p m) (map_set_at Attention.mask s.attention p _) rfl

/-- A request taken alike in OPEN and CLOSING acts in both. -/
theorem whenInSession_acts {s : State} {p : Port} {act : Action}
    (hc : (Statements.connOf s.sessions[p].phase).isSome = true) :
    whenInSession p (fun _ => act) (fun _ => act) (s.hear p) = act (s.hear p) := by
  cases hp : s.sessions[p].phase with
  | opened c => exact whenInSession_opened hp
  | closing c => exact whenInSession_closing hp
  | closed => rw [hp] at hc; cases hc
  | fenced => rw [hp] at hc; cases hc

theorem maskOf_zero (m : Half) : (maskOf m).getLsbD 0 = false := by
  rw [maskOf, BitVec.getLsbD_and]
  exact Bool.and_false _

theorem maskOf_getLsbD (m : Half) {k : Nat} (hk : 1 ≤ k) : (maskOf m).getLsbD k = m.getLsbD k := by
  by_cases h16 : k < 16
  · have hbit : (0xFFFE#16).getLsbD k = true := by
      interval_cases k <;> rfl
    rw [maskOf, BitVec.getLsbD_and, hbit, Bool.and_true]
  · rw [BitVec.getLsbD_of_ge _ _ (Nat.le_of_not_lt h16), BitVec.getLsbD_of_ge _ _ (Nat.le_of_not_lt h16)]

/-- Settles O43: in OPEN and in CLOSING alike the set in range is acted on. -/
theorem acknowledgeAndMask : Obligations.AcknowledgeAndMask := by
  refine fun h s r hc hr => ⟨fun hf => ?_, fun hf => ?_⟩
  · have ha : withArgument (reasonsOf r) (ackAction h.port) (s.hear h.port) = ackAction h.port r (s.hear h.port) := by
      rw [reasonsOf_some hr, withArgument_some]
    obtain ⟨t, ht, hexec, hb⟩ := completes_executed (c := .ackReasons h r) rfl hf
      ((whenInSession_acts hc).trans ha) rfl rfl rfl
    exact ⟨t, ht, hexec, hb.trans (blocks_ack _ _ _)⟩
  · have ha : withArgument (reasonsOf r) (setMaskAction h.port) (s.hear h.port) = setMaskAction h.port r (s.hear h.port) := by
      rw [reasonsOf_some hr, withArgument_some]
    obtain ⟨t, ht, hexec, hb⟩ := completes_executed (c := .setAttention h r) rfl hf
      ((whenInSession_acts hc).trans ha) rfl rfl rfl
    exact ⟨t, ht, hexec, maskOf r, maskOf_zero r, fun k hk => maskOf_getLsbD r hk, hb.trans (blocks_setMask _ _ _)⟩

end Sys2Proof.Proofs

/-! ### Proofs: frames and the CRC -/

namespace Sys2Proof.Proofs

open Sys2Proof.Machine Sys2Proof.Safety Sys2Proof.Statements Sys2Proof.Laws

-- One proof after another: side by side they take more memory than a check has.
set_option Elab.async false

/-! #### A written request is read back (R163, spec/10 section 10.6) -/

/-- A well-formed request's arguments fit in a frame. -/
theorem args_length_le {c : Instr} {r : Request} (hw : c.wellFormed = true) (hr : c.request? = some r) :
    r.args.length ≤ 72 := by
  cases c with
  | linkTruncated | linkCrc | transactionTooSoon | resetNAssert | resetNRelease | resetNShortPulse | tick | leaseExpiry
  | pullExpiry | claimLapse | silenceExpiry | timeBaseAdvance => cases hr
  | write h slot offset data => exact (RequestLengthAccepted.write h slot offset data hw r hr).1
  | badCommand h code args => exact (RequestLengthAccepted.badCommand h code args hw r hr).1
  | _ =>
    cases hr
    exact Nat.le_of_ble_eq_true rfl

theorem ofHandle_leBytes (f : Byte → Seq → Instr) (k : Byte) (q : Seq) :
    ofHandle f (k :: leBytes 6 q.toNat) = some (f k q) :=
  congrArg (fun q => some (f k q)) (seq_roundTrip q)

theorem ofHalf_leBytes (f : Half → Instr) (r : Half) : ofHalf f (leBytes 2 r.toNat) = some (f r) :=
  congrArg (fun r => some (f r)) (half_roundTrip r)

theorem ofOpen_bytes (f : OpenArgs → Instr) (a : OpenArgs) : ofOpen f a.bytes = some (f a) := by
  have hread : ofOpen f a.bytes = some (f { a with
      lease := half (BitVec.ofNat 8 a.lease.toNat) (BitVec.ofNat 8 (a.lease.toNat / 256))
      silence := half (BitVec.ofNat 8 a.silence.toNat) (BitVec.ofNat 8 (a.silence.toNat / 256)) }) := rfl
  rw [hread, half_roundTrip, half_roundTrip]

theorem ofRule_bytes (f : Byte → RuleImage → Instr) (i : Byte) (r : RuleImage) :
    ofRule f (i :: r.bytes) = some (f i r) := by
  have hread : ofRule f (i :: r.bytes) = some (f i { r with
      tag := half (BitVec.ofNat 8 r.tag.toNat) (BitVec.ofNat 8 (r.tag.toNat / 256))
      mask := half (BitVec.ofNat 8 r.mask.toNat) (BitVec.ofNat 8 (r.mask.toNat / 256))
      rewrite := half (BitVec.ofNat 8 r.rewrite.toNat) (BitVec.ofNat 8 (r.rewrite.toNat / 256)) }) := rfl
  rw [hread, half_roundTrip, half_roundTrip, half_roundTrip]

theorem ofBoard_bytes (f : Byte → BoardImage → Instr) (i : Byte) (b : BoardImage) :
    ofBoard f (i :: b.bytes) = some (f i b) := by
  have hread : ofBoard f (i :: b.bytes) = some (f i { b with
      pullTimeout := half (BitVec.ofNat 8 b.pullTimeout.toNat) (BitVec.ofNat 8 (b.pullTimeout.toNat / 256)) }) := rfl
  rw [hread, half_roundTrip]

theorem ofSubmit_bytes (f : SlotIx → Half → Byte → Instr) (slot : SlotIx) (tag : Half) (length : Byte) :
    ofSubmit f ([slotByte slot] ++ leBytes 2 tag.toNat ++ [length]) = some (f slot tag length) := by
  have hread : ofSubmit f ([slotByte slot] ++ leBytes 2 tag.toNat ++ [length]) =
      some (f (slotOf (slotByte slot)) (half (BitVec.ofNat 8 tag.toNat) (BitVec.ofNat 8 (tag.toNat / 256))) length) := rfl
  rw [hread, slot_roundTrip, half_roundTrip]

theorem ofWrite_bytes (f : SlotIx → Byte → List Byte → Instr) (slot : SlotIx) (offset : Byte) {data : List Byte}
    (hd : data.length ≤ 64) : ofWrite f (slotByte slot :: offset :: data) = some (f slot offset data) := by
  have hread : ofWrite f (slotByte slot :: offset :: data) =
      if data.length ≤ 64 then some (f (slotOf (slotByte slot)) offset data) else none := rfl
  rw [hread, if_pos hd, slot_roundTrip]

/-- Code and arguments of a well-formed request of the command table spell that request. -/
theorem requestOf_request {c : Instr} {r : Request} (hw : c.wellFormed = true) (hr : c.request? = some r)
    (hk : isRefusedFrame c = false) : requestOf r.head r.code r.args = some c := by
  cases c with
  | linkTruncated | linkCrc | transactionTooSoon | resetNAssert | resetNRelease | resetNShortPulse | tick | leaseExpiry
  | pullExpiry | claimLapse | silenceExpiry | timeBaseAdvance => cases hr
  | badCommand => cases hk
  | openSession h a => cases hr; exact ofOpen_bytes _ a
  | write h slot offset data =>
    cases hr
    have hd : data.length ≤ 64 := of_decide_eq_true hw
    exact ofWrite_bytes _ slot offset hd
  | abandon h slot => cases hr; exact congrArg (fun slot => some (Instr.abandon h slot)) (slot_roundTrip slot)
  | submit h slot tag length => cases hr; exact ofSubmit_bytes _ slot tag length
  | release h k q => cases hr; exact ofHandle_leBytes _ k q
  | giveBack h k q => cases hr; exact ofHandle_leBytes _ k q
  | renew h k q => cases hr; exact ofHandle_leBytes _ k q
  | editRule h i rule => cases hr; exact ofRule_bytes _ i rule
  | editBoard h i board => cases hr; exact ofBoard_bytes _ i board
  | ackReasons h reasons => cases hr; exact ofHalf_leBytes _ reasons
  | setAttention h mask => cases hr; exact ofHalf_leBytes _ mask
  | _ =>
    cases hr
    rfl

/-- A frame the first check refuses keeps its code and arguments. -/
theorem requestOf_getD {c : Instr} {r : Request} (hw : c.wellFormed = true) (hr : c.request? = some r) :
    (requestOf r.head r.code r.args).getD (.badCommand r.head r.code r.args) = c := by
  cases hk : isRefusedFrame c with
  | false =>
    rw [requestOf_request hw hr hk]
    rfl
  | true =>
    cases c with
    | badCommand h code args =>
      have haccepted := (RequestLengthAccepted.badCommand h code args hw r hr).2
      rw [requestOf_none r.head r.code r.args haccepted]
      cases hr
      rfl
    | _ => cases hk

theorem frame_eq_framed (r : Request) (upper : BitVec 4) : r.frame upper = framed r.code (upper ++ r.head.number) r.args := by
  simp only [Request.frame, Request.body, framed, leBytes_eq, crc16_toNat]

/-- Settles O2: the frame is one of R163, and its code and arguments spell the request. -/
theorem requestFrameIsReadAsItsRequest : Obligations.RequestFrameIsReadAsItsRequest := by
  intro c r upper extra hw hr
  have hhead : (⟨r.head.port, (upper ++ r.head.number).setWidth 4⟩ : Head) = r.head := by
    rw [BitVec.setWidth_append_eq_right]
  rw [frame_eq_framed, commandOf_framed _ _ _ _ _ (args_length_le hw hr), hhead]
  exact requestOf_getD hw hr

/-! #### The CRC and written frames (R164) -/

/-- A frame of a code of the table with arguments that spell a request is read as that request. -/
theorem framed_reads {p : Port} {code num : Byte} {args : List Byte} {c : Instr} (hlen : args.length ≤ 72)
    (hc : requestOf ⟨p, num.setWidth 4⟩ code args = some c) : commandOf p (framed code num args) = c := by
  rw [← List.append_nil (framed code num args), commandOf_framed p code num args [] hlen, hc]
  rfl

/-- Settles O3: the CRC is the one of R164, and each frame's code picks the reader of its arguments. -/
theorem crcCheckValueAndWrittenFrames : Obligations.CrcCheckValueAndWrittenFrames := by
  refine ⟨by decide +kernel, crc16_toNat, fun p => ?_, fun p => ?_, fun p num => ⟨?_, fun a => ?_, fun a b => ?_,
    fun k q0 q1 q2 q3 q4 q5 => ?_, fun l0 l1 s0 s1 off d c r => ?_, fun slot offset data hd => ?_,
    fun slot t0 t1 length => ?_, fun i flags cls t0 t1 m0 m1 source dest r0 r1 lane policy board => ?_,
    fun i flags supplier p0 p1 => ?_⟩⟩
  · exact framed_reads (num := 0x07#8) (args := [30#8, 0x01#8, 0x02#8, 8#8]) (by decide) rfl
  · exact framed_reads (num := 0xF3#8) (args := [1#8, 0x10#8, 0x20#8, 0#8, 0#8, 0#8, 0x80#8]) (by decide) rfl
  · exact ⟨framed_reads (by decide) rfl, framed_reads (by decide) rfl, framed_reads (by decide) rfl,
      framed_reads (by decide) rfl, framed_reads (by decide) rfl, framed_reads (by decide) rfl,
      framed_reads (by decide) rfl, framed_reads (by decide) rfl, framed_reads (by decide) rfl,
      framed_reads (by decide) rfl, framed_reads (by decide) rfl⟩
  · have h1 : [a].length ≤ 72 := Nat.le_of_ble_eq_true rfl
    exact ⟨framed_reads h1 rfl, framed_reads h1 rfl, framed_reads h1 rfl, framed_reads h1 rfl, framed_reads h1 rfl,
      framed_reads h1 rfl⟩
  · have h2 : [a, b].length ≤ 72 := Nat.le_of_ble_eq_true rfl
    rw [← half_eq_append]
    exact ⟨framed_reads h2 rfl, framed_reads h2 rfl, framed_reads h2 rfl, framed_reads h2 rfl, framed_reads h2 rfl⟩
  · have h7 : [k, q0, q1, q2, q3, q4, q5].length ≤ 72 := Nat.le_of_ble_eq_true rfl
    rw [← seq_eq_append]
    exact ⟨framed_reads h7 rfl, framed_reads h7 rfl, framed_reads h7 rfl⟩
  · rw [← half_eq_append, ← half_eq_append]
    exact framed_reads (Nat.le_of_ble_eq_true rfl) rfl
  · have hlen : (slot :: offset :: data).length ≤ 72 := by
      simp only [List.length_cons]
      omega
    exact framed_reads hlen (if_pos hd)
  · rw [← half_eq_append]
    exact framed_reads (Nat.le_of_ble_eq_true rfl) rfl
  · rw [← half_eq_append, ← half_eq_append, ← half_eq_append]
    exact framed_reads (Nat.le_of_ble_eq_true rfl) rfl
  · rw [← half_eq_append]
    exact framed_reads (Nat.le_of_ble_eq_true rfl) rfl

end Sys2Proof.Proofs

/-! ### Proofs: transactions, bit by bit -/

namespace Sys2Proof.Proofs

open Sys2Proof.Machine Sys2Proof.Safety Sys2Proof.Statements Sys2Proof.Laws

-- One proof after another: side by side they take more memory than a check has.
set_option Elab.async false

/-! #### The bits of bytes (R161) -/

theorem bitsOf_eq (b : Byte) :
    bitsOf b = [b.getLsbD 7, b.getLsbD 6, b.getLsbD 5, b.getLsbD 4, b.getLsbD 3, b.getLsbD 2, b.getLsbD 1, b.getLsbD 0] :=
  rfl

theorem bitsOf_getElem? (b : Byte) {i : Nat} (hi : i < 8) : (bitsOf b)[i]? = some (b.getLsbD (7 - i)) := by
  rw [bitsOf_eq]
  interval_cases i <;> rfl

/-- Bit `i` of a run of bytes is in byte `i / 8`, most significant bit first. -/
theorem flatMap_bitsOf_getElem? (bytes : List Byte) (i : Nat) :
    (bytes.flatMap bitsOf)[i]? = bytes[i / 8]?.map fun b => b.getLsbD (7 - i % 8) := by
  induction bytes generalizing i with
  | nil => rfl
  | cons b bytes ih =>
    rw [List.flatMap_cons]
    by_cases hi : i < 8
    · rw [List.getElem?_append_left (by rw [bitsOf_length]; exact hi), bitsOf_getElem? b hi, Nat.div_eq_of_lt hi,
        Nat.mod_eq_of_lt hi]
      rfl
    · obtain ⟨j, rfl⟩ := Nat.exists_eq_add_of_le' (Nat.le_of_not_lt hi)
      rw [List.getElem?_append_right (by rw [bitsOf_length]; omega), bitsOf_length, Nat.add_sub_cancel, ih,
        Nat.add_div_right j (by decide), Nat.add_mod_right, List.getElem?_cons_succ]

theorem outLevel_drop (out : List Bool) (i : Nat) : outLevel (out.drop i) = out[i]?.getD false := by
  rw [outLevel, List.headD_eq_head?_getD, List.head?_drop]

/-! #### The edges of a transaction (R161) -/

theorem risingEdges_eq (es : List LinkEdge) : risingEdges es = (es.filterMap LinkEdge.bit?).length := by
  induction es with
  | nil => rfl
  | cons e es ih =>
    cases e with
    | clockRises b => exact congrArg (· + 1) ih
    | _ => exact ih

theorem clocked_cons (b : Bool) (bits : List Bool) :
    clocked (b :: bits) = .clockRises b :: .clockFalls :: clocked bits := rfl

theorem clocked_length (bits : List Bool) : (clocked bits).length = 2 * bits.length := by
  induction bits with
  | nil => rfl
  | cons b bits ih =>
    rw [clocked_cons, List.length_cons, List.length_cons, List.length_cons, ih]
    omega

theorem clocked_bits (bits : List Bool) : (clocked bits).filterMap LinkEdge.bit? = bits := by
  induction bits with
  | nil => rfl
  | cons b bits ih =>
    rw [clocked_cons]
    exact congrArg (b :: ·) ih

theorem clocked_keeps {bits : List Bool} {e : LinkEdge} (he : e ∈ clocked bits) : e.loses = false := by
  obtain ⟨b, -, hb⟩ := List.mem_flatMap.1 he
  rcases List.mem_cons.1 hb with rfl | hb
  · rfl
  · rw [List.mem_singleton.1 hb]
    rfl

/-- After `i` whole clock periods the port presents bit `i`. -/
theorem shift_clocked_even (out : List Bool) (bits : List Bool) (i : Nat) (hi : i ≤ bits.length) :
    ((clocked bits).take (2 * i)).foldl LinkEdge.shift out = out.drop i := by
  induction bits generalizing out i with
  | nil =>
    obtain rfl : i = 0 := Nat.le_zero.1 hi
    rfl
  | cons b bits ih =>
    cases i with
    | zero => rfl
    | succ i =>
      have hshift := ih out.tail i (Nat.le_of_succ_le_succ hi)
      rwa [List.drop_tail] at hshift

/-- At the rising edge after them it still does. -/
theorem shift_clocked_odd (out : List Bool) (bits : List Bool) (i : Nat) (hi : i < bits.length) :
    ((clocked bits).take (2 * i + 1)).foldl LinkEdge.shift out = out.drop i := by
  induction bits generalizing out i with
  | nil => exact absurd hi (Nat.not_lt_zero i)
  | cons b bits ih =>
    cases i with
    | zero => rfl
    | succ i =>
      have hshift := ih out.tail i (Nat.lt_of_succ_lt_succ hi)
      rwa [List.drop_tail] at hshift

/-- Bit `i` the host samples is bit `i` to drive. -/
theorem drive_clocked (out : List Bool) (bits : List Bool) (i : Nat) (hi : i < bits.length) :
    (drive out (clocked bits))[i]? = some (outLevel (out.drop i)) := by
  induction bits generalizing out i with
  | nil => exact absurd hi (Nat.not_lt_zero i)
  | cons b bits ih =>
    cases i with
    | zero => rfl
    | succ i =>
      have hdrive := ih out.tail i (Nat.lt_of_succ_lt_succ hi)
      rwa [List.drop_tail] at hdrive

/-! #### A transaction that starts too soon (R162, R173) -/

theorem not_startsInTime {t : Transaction}
    (h : (∃ us, t.sincePrevious = some us ∧ us < 2) ∨ t.sinceRelease = none ∨
      ∃ us, t.sinceRelease = some us ∧ us < 50) : t.startsInTime = false := by
  unfold Transaction.startsInTime
  rcases h with ⟨us, hus, hlt⟩ | hnone | ⟨us, hus, hlt⟩
  · rw [hus, Bool.and_eq_false_iff]
    exact .inr (decide_eq_false (Nat.not_le.2 hlt))
  · rw [hnone]
    rfl
  · rw [hus, Bool.and_eq_false_iff]
    exact .inl (decide_eq_false (Nat.not_le.2 hlt))

theorem dataOut_too_soon {t : Transaction} (h : t.startsInTime = false) (s : State) :
    t.dataOut s = List.replicate (risingEdges t.edges) false := by
  rw [Transaction.dataOut, Transaction.loaded, h, Bool.and_false, if_neg Bool.false_ne_true, drive_nil, risingEdges_eq]

/-! #### A received transaction (R161) -/

theorem startsInTime_of {p : Port} {release : Nat} {previous : Option Nat} {es : List LinkEdge} (hr : 50 ≤ release)
    (hp : ∀ us, previous = some us → 2 ≤ us) : (⟨p, some release, previous, es⟩ : Transaction).startsInTime = true := by
  refine Bool.and_eq_true_iff.2 ⟨decide_eq_true hr, ?_⟩
  cases previous with
  | none => rfl
  | some us => exact decide_eq_true (hp us rfl)

/-- What the port drives is the held response, bit by bit. -/
theorem outLevel_loaded {t : Transaction} {s : State} (hr : s.resetN = true) (ht : t.startsInTime = true) (i : Nat) :
    outLevel ((t.loaded s).drop i) = heldBit s t.port i := by
  rw [outLevel_drop, Transaction.loaded, hr, ht, Bool.and_true, if_pos rfl, flatMap_bitsOf_getElem?, responseBytes_eq, heldBit]
  split
  · rename_i hlt
    rw [List.getElem?_eq_getElem hlt]
    rfl
  · rename_i hge
    rw [List.getElem?_eq_none (Nat.le_of_not_lt hge)]
    rfl

theorem dataOutAt_le {t : Transaction} {k : Nat} (h : k ≤ t.edges.length) (s : State) :
    t.dataOutAt s k = some (outLevel ((t.edges.take k).foldl LinkEdge.shift (t.loaded s))) := if_pos h

/-! #### A reset on the way (R173, R174) -/

/-- An edge that samples no bit on data in drives none on data out. -/
theorem drive_no_bit {e : LinkEdge} (he : e.bit? = none) (out : List Bool) (es : List LinkEdge) :
    drive out (e :: es) = drive (e.shift out) es := by
  rw [drive, he]
  rfl

section OnTheWay

variable {p : Port} {release previous : Option Nat} {before after : List LinkEdge} {e : LinkEdge}

theorem not_received_of_loses (hl : e.loses = true) :
    (⟨p, release, previous, before ++ e :: after⟩ : Transaction).received = false := by
  rw [Transaction.received, List.any_append, List.any_cons, hl, Bool.true_or, Bool.or_true]
  exact Bool.and_false _

/-- From an edge that loses the transaction on, it reads 0. -/
theorem dataOut_lost (hl : e.loses = true) (hb : e.bit? = none) (s : State) :
    (⟨p, release, previous, before ++ e :: after⟩ : Transaction).dataOut s =
      (⟨p, release, previous, before⟩ : Transaction).dataOut s ++ List.replicate (risingEdges after) false := by
  rw [risingEdges_eq, ← drive_nil, Transaction.dataOut, drive_append, drive_no_bit hb, shift_of_loses _ _ hl]
  rfl

theorem command_kept (hl : e.loses = false) (hb : e.bit? = none) :
    (⟨p, release, previous, before ++ e :: after⟩ : Transaction).command =
      (⟨p, release, previous, before ++ after⟩ : Transaction).command := by
  have hreceived : (⟨p, release, previous, before ++ e :: after⟩ : Transaction).received =
      (⟨p, release, previous, before ++ after⟩ : Transaction).received := by
    simp only [Transaction.received, List.any_append, List.any_cons, hl, Bool.false_or]
    rfl
  have hbytes : (⟨p, release, previous, before ++ e :: after⟩ : Transaction).dataIn =
      (⟨p, release, previous, before ++ after⟩ : Transaction).dataIn := by
    simp only [Transaction.dataIn, List.filterMap_append, List.filterMap_cons_none hb]
  rw [Transaction.command, Transaction.command, hreceived, hbytes]

theorem dataOut_kept (hs : ∀ out : List Bool, e.shift out = out) (hb : e.bit? = none) (s : State) :
    (⟨p, release, previous, before ++ e :: after⟩ : Transaction).dataOut s =
      (⟨p, release, previous, before ++ after⟩ : Transaction).dataOut s := by
  rw [Transaction.dataOut, Transaction.dataOut, drive_append, drive_append, drive_no_bit hb, hs]
  rfl

end OnTheWay

/-- Settles O4, part by part: gathering, a transaction too soon, a received one, one with a reset on its way. -/
theorem transactionsDriveTheHeldResponseOrZeros : Obligations.TransactionsDriveTheHeldResponseOrZeros := by
  refine ⟨gather_flatMap_bitsOf, fun t s hsoon => ?_, fun p release previous bits s hreset hr hp => ?_,
    fun p release previous before after s => ?_⟩
  · have hstart := not_startsInTime hsoon
    have hcommand : t.command = .transactionTooSoon t.port :=
      command_of_not_received t (by rw [Transaction.received, hstart]; rfl)
    exact ⟨hcommand, by rw [hcommand]; rfl, dataOut_too_soon hstart s⟩
  · intro t
    have hstart : t.startsInTime = true := startsInTime_of hr hp
    have hreceived : t.received = true := (received_iff t).2 ⟨hstart, fun e he => clocked_keeps he⟩
    have hlength : t.edges.length = 2 * bits.length := clocked_length bits
    refine ⟨?_, ?_, fun i hi => ⟨?_, ?_⟩, fun i hi => ?_, fun k hk => ?_⟩
    · rw [command_of_received t hreceived, Transaction.dataIn, clocked_bits]
    · rw [Transaction.dataOut, drive_length, clocked_bits]
    · rw [Transaction.dataOut, drive_clocked _ _ _ hi, outLevel_loaded hreset hstart]
    · rw [dataOutAt_le (by omega), shift_clocked_odd _ _ _ hi, outLevel_loaded hreset hstart]
    · rw [dataOutAt_le (by omega), shift_clocked_even _ _ _ hi, outLevel_loaded hreset hstart]
    · exact if_neg (by omega)
  · intro around lost
    have hlost : ∀ e : LinkEdge, e.loses = true → e.bit? = none → lost (around (before ++ e :: after)) := fun e hl hb =>
      have hcommand := command_of_not_received _ (not_received_of_loses hl)
      ⟨hcommand, fun s' => by rw [hcommand]; rfl, dataOut_lost hl hb s⟩
    refine ⟨hlost _ rfl rfl, fun n => ?_⟩
    split
    · exact hlost _ ‹_› rfl
    · rename_i hn
      have hl : (LinkEdge.shortPulse n).loses = false := Bool.eq_false_iff.2 hn
      have hs : ∀ out : List Bool, (LinkEdge.shortPulse n).shift out = out := fun out => by
        rw [LinkEdge.shift, hl]
        rfl
      exact ⟨command_kept hl rfl, dataOut_kept hs rfl s⟩

end Sys2Proof.Proofs
